-- ==== Sys2Proof/Word.lean ====
section
/-!
DEFINITION. The plainest units of the Gorlan PE-24 (00_scope.md section 5): millimetres along the
platform edge are signed integers, durations and times are whole milliseconds or whole seconds.
Bit vectors stand only for what the manual reads as bits: the bytes of a frame, the check of R150
and R169, the sixteen beam readings of R43 and the class set of SET_NOTICE_MASK (R162).
-/
namespace Sys2Proof

/-- One byte of a frame or of the store image. -/
abbrev Byte := BitVec 8

/-- A position, offset, distance or width in millimetres (00_scope.md section 5.1): exact integer
arithmetic, positive in the direction of travel. -/
abbrev Mm := Int

/-- A time or duration in milliseconds (00_scope.md section 5.3). -/
abbrev Millis := Nat

/-- A count of whole seconds (R1). -/
abbrev Seconds := Nat

end Sys2Proof
end

