-- ==== Sys2Proof/Syntax.lean ====
section
/-!
DEFINITION. The commands of the Gorlan PE-24: one constructor of `Instr` for each row of
spec/opcode_table.json. A row of R154 is a request frame received whole and found good, with the
fields its rule names; the other rows are events of the part's inputs, of the Door Bus and of its
timers (95_what_each_step_holds.md).
-/
namespace Sys2Proof

/-- The three links of the part (00_scope.md section 2.1), in the order of R159. -/
inductive Port where
  | signalling | train | station
deriving DecidableEq, Repr

/-- A named value as a frame carries it: one byte coded from 00h in the listed order (R162), or a
byte that codes none of the named values. -/
inductive Coded (α : Type) where
  | named (v : α)
  | outside
deriving DecidableEq, Repr

/-- Whether the train runs with door 1 leading or trailing (R20). -/
inductive Orientation where
  | forward | reversed
deriving DecidableEq, Repr

/-- Service kind of an approach record (R20). -/
inductive ServiceKind where
  | stopping | passing | emptyStock
deriving DecidableEq, Repr

/-- Train-link-loss disposition of a bay (R6). -/
inductive Disposition where
  | hold | close
deriving DecidableEq, Repr

/-- The clear choice of RESYNC_QUEUE (R25), listed as yes or no. -/
inductive Choice where
  | yes | no
deriving DecidableEq, Repr

/-- What WRITE_GEOMETRY writes (R174). -/
inductive GeometryItem where
  | bayCount | bay | beam
deriving DecidableEq, Repr

/-- The seven notice classes, in the order of R158 and R162. -/
inductive NoticeClass where
  | secure | phase | operation | alarm | emergency | dwell | gap
deriving DecidableEq, Repr

/-- The two channels of the secure relay circuit (R111). -/
inductive Channel where
  | a | b
deriving DecidableEq, Repr

/-- The motion event field of a node reply (R86). -/
inductive MotionEvent where
  | noEvent | reachedOpen | obstructedOpening | obstructedClosing
deriving DecidableEq, Repr

/-- A node reply that passes its check (R86): `true` is made, active, occupied, as each field says. -/
structure NodeReply where
  /-- the node's own bay number, 1..24 -/
  bay : Nat
  lc : Bool
  rc : Bool
  lk1 : Bool
  lk2 : Bool
  iso : Bool
  rh : Bool
  pk : Bool
  /-- leaf position, 0..100 per cent, 0 being fully closed -/
  leaf : Nat
  event : MotionEvent
  eventNo : Bool
  presence : Bool
  gap : Bool
deriving DecidableEq, Repr

/-- The head of a good request frame (R150, R162): the link it arrived on, its address, its tag and
the length of its payload. -/
structure Req where
  port : Port
  addr : Nat
  tag : Nat
  len : Nat
deriving DecidableEq, Repr

/-- The fields of APPEND_APPROACH, one approach record of R20. -/
structure AppendFields where
  seq : Nat
  trainId : Nat
  profile : Nat
  orientation : Coded Orientation
  service : Coded ServiceKind
  dwell : Option Seconds
deriving DecidableEq, Repr

/-- The fields of IDENTIFY (R30). -/
structure IdentifyFields where
  trainId : Nat
  profile : Nat
  orientation : Coded Orientation
deriving DecidableEq, Repr

/-- The fields of PROBE_ALIGNMENT (R60). -/
structure ProbeFields where
  profile : Nat
  orientation : Coded Orientation
  d : Mm
deriving DecidableEq, Repr

/-- The fields of WRITE_GEOMETRY (R174). -/
structure GeometryFields where
  item : Coded GeometryItem
  number : Nat
  position : Mm
  width : Mm
  gapClass : Nat
  disposition : Coded Disposition
deriving DecidableEq, Repr

/-- The fields of WRITE_PROFILE (R174). -/
structure ProfileFields where
  slot : Nat
  door : Nat
  first : Mm
  second : Mm
  third : Mm
deriving DecidableEq, Repr

/-- The fields of WRITE_PARAMETERS (R174): a position of R11 and the value. A QUEUE_POLICY is its
code, 0 STRICT and 1 LENIENT. -/
structure ParameterFields where
  position : Nat
  value : Int
deriving DecidableEq, Repr

/-- The commands, one for each row of spec/opcode_table.json, in the table's order. -/
inductive Instr where
  -- supply and load (R169 to R171, R175)
  | powerOn
  | powerLoss
  | loadSucceeded
  | loadFailed
  -- requests of the signalling master (R154)
  | heartbeat (r : Req)
  | appendApproach (r : Req) (f : AppendFields)
  | withdrawApproach (r : Req) (seq : Nat)
  | resyncQueue (r : Req) (expected : Option Nat) (clear : Coded Choice)
  | isolationConcurrence (r : Req) (bay : Nat)
  | statusRequest (r : Req)
  -- requests of the train master
  | identify (r : Req) (f : IdentifyFields)
  | stopped (r : Req) (offset : Option Mm)
  | moving (r : Req)
  | openRequest (r : Req)
  | openStation (r : Req)
  | closeRequest (r : Req)
  | closeStation (r : Req)
  -- requests of the station master
  | statusRead (r : Req)
  | bayRead (r : Req) (bay : Nat)
  | alarmRead (r : Req) (position : Nat)
  | queueRead (r : Req)
  | ackNext (r : Req)
  | purgeAlarms (r : Req)
  | confirmOpen (r : Req)
  | retryBay (r : Req) (bay : Nat)
  | closeBay (r : Req) (bay : Nat)
  | restoreBay (r : Req) (bay : Nat)
  | probeAlignment (r : Req) (f : ProbeFields)
  | clearUsage (r : Req) (bay : Option Nat)
  | setNoticeMask (r : Req) (port : Coded Port) (classes : Byte)
  | confirmBerth (r : Req) (profile : Nat) (orientation : Coded Orientation)
  | isolateBay (r : Req) (bay : Nat)
  | deisolateBay (r : Req) (bay : Nat)
  | rearm (r : Req)
  | enterCommissioning (r : Req)
  | writeGeometry (r : Req) (f : GeometryFields)
  | writeProfile (r : Req) (f : ProfileFields)
  | writeParameters (r : Req) (f : ParameterFields)
  | commit (r : Req)
  | exitCommissioning (r : Req)
  | commitAndExit (r : Req)
  | commitWriteEnd
  | testBayStep (r : Req) (bay : Nat)
  | restart (r : Req)
  -- frames that are no request of R154 (R150 to R152)
  | frameBad (port : Port)
  | frameNotRequest (port : Port) (addr : Nat) (kind : Nat)
  | frameOtherAddress (addr : Nat) (kind : Nat)
  | unknownRequestKind (r : Req) (kind : Nat)
  -- beams and berth timers
  | beamChange (beam : Nat) (blocked : Bool)
  | beamStop
  | departClear
  | occupiedClear
  | dwellExpiry
  -- hardwired lines (00_scope.md section 2.2)
  | evacAsserted
  | evacReleased
  | keyChange (asserted : Bool)
  | addrChange (addr : Nat)
  | readbackChange (channel : Channel) (energised : Bool)
  | outputFault (channel : Channel)
  -- Door Bus
  | poll
  | nodeReply (r : NodeReply)
  | nodeReplyMissed
  -- bay timers
  | openTimeout (bay : Nat)
  | closeTimeout (bay : Nat)
  | doorwayHoldExpiry (bay : Nat)
  | reopenHoldExpiry (bay : Nat)
  | discrepancyTimerExpiry (bay : Nat)
  | recoveryTimerExpiry (bay : Nat)
  | stepTimeLimitExpiry (bay : Nat)
  -- sensing
  | presenceStuck (bay : Nat)
  | gapCheckPassed (bay : Nat)
  | gapCheckFailed (bay : Nat)
  | trackIntrusion (bay : Nat)
  | intrusionClear
  -- links and isolation
  | sigWatchdogExpiry
  | trainLossExpiry
  | isolationExpired (bay : Nat)
  | noticeIntervalEnd (port : Port) (cls : NoticeClass)
deriving DecidableEq, Repr

end Sys2Proof
end

