-- ==== Sys2Proof/Decode.lean ====
section
/-!
DEFINITION. The opcode table of the part gives its rows no bits ("fields": [] in every row of
spec/opcode_table.json), so no word spells a command. The byte layout of the frames that carry the
requests (R150, R162) is Machine/Codec.lean.
-/
namespace Sys2Proof

/-- The command a word of `nbits` bits spells by the table: none, since no row gives bits. -/
def decodeTableWord (_nbits _w : Nat) : Option Instr := none

end Sys2Proof
end

