-- ==== Sys2Proof/Config.lean ====
section
/-!
DEFINITION. What a Gorlan PE-24 is configured with: the parameters of R11, the geometry record of
R4, the profile slots of R8 and the content made of them (R12), as the store image holds them; and
the free values, which the manual leaves open.
-/
namespace Sys2Proof

/-- The eighteen parameters, in the order of R11. -/
inductive Param where
  | alignWindow | agreeTol | stopStable | departClear | openTimeout | closeTimeout
  | doorwayHold | reopenHold | retryLimit | gapConfirm | intrusionConfirm | discrepancyPersist
  | sigWatchdog | trainLoss | isolationLimit | concurrenceWindow | queuePolicy | noticeInterval
deriving DecidableEq, Repr

/-- One bay entry of the geometry record (R4). The disposition is its code: 0 HOLD, 1 CLOSE. -/
structure BayEntry where
  centre : Mm
  width : Mm
  gapClass : Nat
  disposition : Nat
deriving DecidableEq, Repr, Inhabited

/-- One door entry of a profile slot (R8). -/
structure DoorEntry where
  offset : Mm
  width : Mm
deriving DecidableEq, Repr, Inhabited

/-- One profile slot (R8); a door count of 0 marks it empty. -/
structure Profile where
  count : Nat
  length : Mm
  minClear : Mm
  doors : List DoorEntry
deriving DecidableEq, Repr, Inhabited

/-- The content of the store (R12): the bay count and the 24 bay entries, the sixteen beam
positions, the eight profile slots and the eighteen parameters. An image may hold values out of
their ranges, which the checks of R14 find. -/
structure Content where
  count : Nat
  bays : List BayEntry
  beams : List Mm
  profiles : List Profile
  params : List Int
deriving DecidableEq, Repr, Inhabited

/-- What a commit write cut off by a loss of the supply leaves: image fields and a checksum. R175 says
only that the two may not agree, so both are a free value, one for each loss (assumption 7). -/
opaque Config.tornImage : Nat → Content × BitVec 16

end Sys2Proof
end

