-- ==== Sys2Proof/Machine/Content.lean ====
section
/-!
DEFINITION. The arithmetic of the stored content (chapter 1): spans and overlaps (R3, R5, R9), the
parameter table (R11), the structural checks in their fixed order (R14 to R17), the substitute
content (R13), the content as delivered (R19), and the checksum of the store (R169).
-/
namespace Sys2Proof

/-! ### Durations and counts the manual fixes -/

/-- A poll has a slot of 2 ms (R84). -/
def pollSlotMs : Millis := 2
/-- Missed replies that declare a node lost (R88). -/
def missedLimit : Nat := 3
/-- A presence run of 60 s marks the sensor stuck (R99). -/
def stuckMs : Millis := 60000
/-- An intrusion ends after 2,000 ms clear (R107). -/
def intrusionClearMs : Millis := 2000
/-- A disagreement of 100 ms latches the output fault (R116). -/
def disagreeMs : Millis := 100
/-- A commit write ends 600 ms after its COMMIT (R175). -/
def commitWriteMs : Millis := 600
/-- The approach queue holds at most 8 records (R21). -/
def queueLimit : Nat := 8
/-- The pending-isolation list holds at most 4 requests (R142). -/
def pendingLimit : Nat := 4
/-- The alarm list holds at most 48 entries (R164). -/
def alarmLimit : Nat := 48
/-- The station outbox holds at most 16 notices (R161). -/
def outboxLimit : Nat := 16
/-- Four notices at most leave the outbox in one turn (R151). -/
def turnNotices : Nat := 4
/-- The write count stands at most at 20,000 (R175). -/
def wearLimit : Nat := 20000
/-- A train offset is usable within -4,000..+4,000 mm (R44). -/
def offsetLimit : Mm := 4000
/-- The substitute bay count, and the number of bay entries (R4, R13). -/
def bayEntries : Nat := 24

/-- The settle interval of a gap class (R6); class 0 has no gap check. -/
def settleMs : Nat → Millis
  | 1 => 500
  | 2 => 800
  | _ => 1200

/-! ### Spans (R3, R5, R9) -/

/-- A closed span, low end and high end (R3). -/
abbrev Span := Mm × Mm

/-- The span of centre `c` and width `w` (R3); `/` on `Int` by 2 rounds down. -/
def spanOf (c w : Mm) : Span := (c - w / 2, c - w / 2 + w)

/-- The length common to two spans, or zero (R3). -/
def overlap (s t : Span) : Mm := max 0 (min s.2 t.2 - max s.1 t.1)

/-! ### Parameters (R11) -/

/-- Every parameter, in the order of R11. -/
def Param.all : List Param :=
  [.alignWindow, .agreeTol, .stopStable, .departClear, .openTimeout, .closeTimeout,
   .doorwayHold, .reopenHold, .retryLimit, .gapConfirm, .intrusionConfirm, .discrepancyPersist,
   .sigWatchdog, .trainLoss, .isolationLimit, .concurrenceWindow, .queuePolicy, .noticeInterval]

/-- The position of a parameter in R11, counted from 0. -/
def Param.index : Param → Nat
  | .alignWindow => 0 | .agreeTol => 1 | .stopStable => 2 | .departClear => 3
  | .openTimeout => 4 | .closeTimeout => 5 | .doorwayHold => 6 | .reopenHold => 7
  | .retryLimit => 8 | .gapConfirm => 9 | .intrusionConfirm => 10 | .discrepancyPersist => 11
  | .sigWatchdog => 12 | .trainLoss => 13 | .isolationLimit => 14 | .concurrenceWindow => 15
  | .queuePolicy => 16 | .noticeInterval => 17

/-- The range of a parameter (R11); QUEUE_POLICY is 0 STRICT or 1 LENIENT. -/
def Param.range : Param → Int × Int
  | .alignWindow => (100, 1000) | .agreeTol => (0, 300) | .stopStable => (500, 3000)
  | .departClear => (1000, 5000) | .openTimeout => (2000, 8000) | .closeTimeout => (2000, 10000)
  | .doorwayHold => (0, 10000) | .reopenHold => (500, 5000) | .retryLimit => (0, 5)
  | .gapConfirm => (100, 1000) | .intrusionConfirm => (100, 1000)
  | .discrepancyPersist => (100, 2000) | .sigWatchdog => (500, 5000) | .trainLoss => (1000, 5000)
  | .isolationLimit => (0, 8) | .concurrenceWindow => (10, 120) | .queuePolicy => (0, 1)
  | .noticeInterval => (100, 1000)

/-- The default of a parameter (R11). -/
def Param.dflt : Param → Int
  | .alignWindow => 350 | .agreeTol => 120 | .stopStable => 1000 | .departClear => 2000
  | .openTimeout => 4000 | .closeTimeout => 5000 | .doorwayHold => 3000 | .reopenHold => 2000
  | .retryLimit => 2 | .gapConfirm => 200 | .intrusionConfirm => 300 | .discrepancyPersist => 500
  | .sigWatchdog => 1500 | .trainLoss => 2000 | .isolationLimit => 4 | .concurrenceWindow => 60
  | .queuePolicy => 0 | .noticeInterval => 250

/-- The bytes a value of the parameter takes by the field types of R162: 3 for millimetres, 2 for
milliseconds, 1 for seconds, counts and named values. -/
def Param.bytes : Param → Nat
  | .alignWindow | .agreeTol => 3
  | .retryLimit | .isolationLimit | .concurrenceWindow | .queuePolicy => 1
  | _ => 2

/-- The parameter at a position 1..18 of R11. -/
def Param.ofPosition (n : Nat) : Option Param := if n = 0 then none else Param.all[n - 1]?

/-! ### Reading a content -/

/-- Bay entry `b`, 1..24 (R4). -/
def Content.bay (c : Content) (b : Nat) : BayEntry := c.bays.getD (b - 1) ⟨0, 1200, 0, 0⟩
/-- Position of beam `i`, 0..15 (R7). -/
def Content.beam (c : Content) (i : Nat) : Mm := c.beams.getD i 0
/-- Profile slot `p` (R8); a slot number outside 0..7 names an empty slot. -/
def Content.profile (c : Content) (p : Nat) : Profile := c.profiles.getD p ⟨0, 0, 0, []⟩
/-- The value of a parameter (R11). -/
def Content.param (c : Content) (p : Param) : Int := c.params.getD p.index p.dflt
/-- The span of bay `b` (R5). -/
def Content.baySpan (c : Content) (b : Nat) : Span := spanOf (c.bay b).centre (c.bay b).width

/-- Door entry `k`, 1..32 (R8). -/
def Profile.door (p : Profile) (k : Nat) : DoorEntry := p.doors.getD (k - 1) ⟨0, 0⟩
/-- The train-frame span of door `k` (R9). -/
def Profile.doorSpan (p : Profile) (k : Nat) : Span := spanOf (p.door k).offset (p.door k).width
/-- A slot whose door count is 0 is empty (R8). -/
def Profile.isEmpty (p : Profile) : Bool := p.count == 0

/-- The numbers 1..n, ascending. -/
def upTo (n : Nat) : List Nat := (List.range n).map (· + 1)

/-! ### The shape of a content (R4, R7, R8, R11) -/

/-- A slot with its 32 door entries. -/
def Profile.shaped (p : Profile) : Profile := { p with doors := (upTo 32).map p.door }

/-- A content as the store can hold one: 24 bay entries, 16 beams, 8 slots of 32 doors and 18
parameters, each as it reads. -/
def Content.shaped (c : Content) : Content where
  count := c.count
  bays := (upTo bayEntries).map c.bay
  beams := (List.range 16).map c.beam
  profiles := (List.range 8).map fun i => (c.profile i).shaped
  params := Param.all.map c.param

/-- What the store holds after the supply was lost during a commit write: the free value, in the shape of
a content (assumption 7). -/
def Config.tornStore (n : Nat) : Content × BitVec 16 :=
  ((Config.tornImage n).1.shaped, (Config.tornImage n).2)

/-! ### The structural checks (R14 to R17) -/

/-- The check codes, in the order of R15, R16 and R17. -/
inductive CheckCode where
  | bayCount | bayCentre | bayWidth | bayGapClass | bayDisposition | bayOrder
  | beamPosition | beamSpacing
  | profileDoorCount | profileLength | profileMinClear | doorWidth | doorOrder | doorExtent
  | doorSeparation | minClearWidth
  | parameterRange
deriving DecidableEq, Repr

/-- The record a check concerns (R14). -/
inductive CheckRecord where
  | geometry | profile | parameters
deriving DecidableEq, Repr

/-- A violation report (R14). -/
structure Violation where
  code : CheckCode
  record : CheckRecord
  slot : Option Nat
  entry : Option Nat
deriving DecidableEq, Repr

/-- A value outside a closed range. -/
def outOf (x lo hi : Int) : Bool := decide (x < lo ∨ hi < x)

/-- The first entry of `es` that violates a check, as a report (R14: ascending entries). -/
def firstEntry (code : CheckCode) (rec : CheckRecord) (slot : Option Nat) (es : List Nat)
    (bad : Nat → Bool) : Option Violation :=
  (es.find? bad).map fun e => ⟨code, rec, slot, some e⟩

/-- A check on a record as a whole. -/
def wholeRecord (code : CheckCode) (rec : CheckRecord) (slot : Option Nat) (bad : Bool) :
    Option Violation :=
  if bad then some ⟨code, rec, slot, none⟩ else none

/-- The geometry checks, top to bottom (R15). -/
def geometryChecks (c : Content) : List (Option Violation) :=
  let bays := upTo c.count
  let each := fun code bad => firstEntry code .geometry none bays bad
  [wholeRecord .bayCount .geometry none (outOf c.count 1 24),
   each .bayCentre fun b => outOf (c.bay b).centre (-250000) 0,
   each .bayWidth fun b => outOf (c.bay b).width 1200 3000,
   each .bayGapClass fun b => decide (3 < (c.bay b).gapClass),
   each .bayDisposition fun b => decide (1 < (c.bay b).disposition),
   firstEntry .bayOrder .geometry none (bays.drop 1) fun b =>
     decide ((c.baySpan b).2 > (c.baySpan (b - 1)).1),
   firstEntry .beamPosition .geometry none (List.range 16) fun i => outOf (c.beam i) (-2000) 2000,
   firstEntry .beamSpacing .geometry none ((List.range 16).drop 1) fun i =>
     decide (c.beam i - c.beam (i - 1) < 20)]

/-- The smallest door width among doors 1..n is below MIN_CLEAR (R16): some door is. -/
def minClearTooWide (p : Profile) : Bool :=
  (upTo p.count).any fun k => decide ((p.door k).width < p.minClear)

/-- The profile checks of one slot, top to bottom (R16). A slot with no doors passes all but the
first. -/
def profileChecks (slot : Nat) (p : Profile) : List (Option Violation) :=
  let fitted := !p.isEmpty
  let doors := upTo p.count
  let whole := fun code bad => wholeRecord code .profile (some slot) bad
  let each := fun code ks bad => firstEntry code .profile (some slot) ks bad
  [whole .profileDoorCount (decide (32 < p.count)),
   whole .profileLength (fitted && outOf p.length 10000 250000),
   whole .profileMinClear (fitted && outOf p.minClear 500 1900),
   each .doorWidth doors fun k => outOf (p.door k).width 900 1900,
   each .doorOrder (doors.drop 1) fun k => decide ((p.door k).offset ≤ (p.door (k - 1)).offset),
   each .doorExtent doors fun k =>
     decide ((p.doorSpan k).1 < 0 ∨ p.length < (p.doorSpan k).2),
   each .doorSeparation (doors.drop 1) fun k =>
     decide (0 < overlap (p.doorSpan (k - 1)) (p.doorSpan k)),
   whole .minClearWidth (fitted && minClearTooWide p)]

/-- The parameter check, in the order of R11 (R17); its entries are positions 1..18. -/
def parameterChecks (c : Content) : List (Option Violation) :=
  [(Param.all.find? fun p => outOf (c.param p) p.range.1 p.range.2).map fun p =>
    ⟨.parameterRange, .parameters, none, some (p.index + 1)⟩]

/-- The first violation of a content in the order of R14, or `none` for a valid content. -/
def firstViolation (c : Content) : Option Violation :=
  (geometryChecks c ++ (List.range 8).flatMap (fun i => profileChecks i (c.profile i)) ++
    parameterChecks c).findSome? id

/-! ### Substitute and delivered content (R13, R19) -/

/-- The geometry and parameters of the store as delivered (R19). -/
def deliveredContent : Content where
  count := 0
  bays := List.replicate 24 ⟨0, 1200, 0, 0⟩
  beams := (List.range 16).map fun (i : Nat) => -750 + 100 * (i : Int)
  profiles := List.replicate 8 ⟨0, 0, 0, List.replicate 32 ⟨0, 0⟩⟩
  params := Param.all.map Param.dflt

/-- The bay count the part polls and holds for an image: its own where it lies in 1..24, and 24
otherwise (R13, R84). -/
def polledCount (c : Content) : Nat :=
  if 1 ≤ c.count ∧ c.count ≤ 24 then c.count else bayEntries

/-- The content the blocks work to while none is in force (R13): default parameters, gap class 0,
disposition HOLD, every profile slot empty. -/
def substituteContent : Content := deliveredContent

/-! ### The checksum of the store (R169) -/

/-- One bit step of the CRC: polynomial x^16 + x^12 + x^5 + 1 (R150, R169). -/
def crcShift (crc : BitVec 16) : BitVec 16 :=
  if crc.msb then (crc <<< 1) ^^^ 0x1021#16 else crc <<< 1

/-- One byte of the CRC, most significant bit first (R150). -/
def crcByte (crc : BitVec 16) (b : Byte) : BitVec 16 :=
  crcShift (crcShift (crcShift (crcShift (crcShift (crcShift (crcShift (crcShift
    (crc ^^^ (b.setWidth 16 <<< 8)))))))))

/-- The CRC-16 of R150 and R169: initial value FFFFh, no final inversion. -/
def crc16 (bytes : List Byte) : BitVec 16 := bytes.foldl crcByte 0xFFFF#16

/-- The lowest `n` bytes of a number in two's complement, most significant first (R162). -/
def bytesOf : Nat → Int → List Byte
  | 0, _ => []
  | n + 1, x => BitVec.ofInt 8 (x / (256 : Int) ^ n) :: bytesOf n x

/-- A millimetre field, three bytes (R162). -/
def mmBytes (x : Mm) : List Byte := bytesOf 3 x
/-- A one-byte field (R162). -/
def natByte (n : Nat) : Byte := BitVec.ofNat 8 n

/-- The image bytes in store order: the records in the order of R4, R8 and R11, their fields as R162
encodes them (DESIGN CHOICE, assumption 8). -/
def imageBytes (c : Content) : List Byte :=
  natByte c.count ::
    c.bays.flatMap (fun b => mmBytes b.centre ++ mmBytes b.width ++
      [natByte b.gapClass, natByte b.disposition]) ++
    c.beams.flatMap mmBytes ++
    c.profiles.flatMap (fun p => natByte p.count :: mmBytes p.length ++ mmBytes p.minClear ++
      p.doors.flatMap fun d => mmBytes d.offset ++ mmBytes d.width) ++
    (Param.all.flatMap fun p => bytesOf p.bytes (c.param p))

/-- The checksum of an image (R169). -/
def checksumOf (c : Content) : BitVec 16 := crc16 (imageBytes c)

/-! ### The outcome of reading the image (R170) -/

/-- The detail of STORE_FAULT (R170): the checksum, or the violation report. -/
inductive StoreDetail where
  | checksum
  | violation (v : Violation)
deriving DecidableEq, Repr

/-- Reading and checking the image (R170): `none` where it passes. -/
def checkImage (image : Content) (checksum : BitVec 16) : Option StoreDetail :=
  if checksumOf image = checksum then (firstViolation image).map StoreDetail.violation
  else some .checksum

end Sys2Proof
end

