-- ==== Sys2Proof/Machine/State.lean ====
section
/-!
DEFINITION. The state of a Gorlan PE-24: the records its ten blocks hold (00_scope.md section 3.1),
the input lines it samples, its clock, the frames it sends, and the queue of commands waiting to be
taken. Everything is plain data.
-/
namespace Sys2Proof.Machine
open Sys2Proof

/-! ### Modes and phases -/

/-- The platform mode, in the order of R163. -/
inductive Mode where
  | startup | configFault | localMode | normal | commissioning | emergency
deriving DecidableEq, Repr

/-- The berth phase (section 2.6), in the order of R163. -/
inductive Phase where
  | vacant | occupiedUnknown | arriving | aligned | misaligned | opening | opened
  | closing | closedProving | secureBerthed | departing
deriving DecidableEq, Repr

/-- The authority class of a sender (R153). -/
inductive Authority where
  | signalling | train | attendant | supervisor
deriving DecidableEq, Repr

/-- The request kinds, in the order of R154; their codes run from 01h (R162). -/
inductive ReqKind where
  | heartbeat | appendApproach | withdrawApproach | resyncQueue | isolationConcurrence
  | statusRequest | identify | stopped | moving | openRequest | closeRequest
  | statusRead | bayRead | alarmRead | queueRead | ackNext | purgeAlarms | confirmOpen
  | closeStation | retryBay | closeBay | restoreBay | probeAlignment | clearUsage
  | setNoticeMask | openStation | confirmBerth | isolateBay | deisolateBay | rearm
  | enterCommissioning | writeGeometry | writeProfile | writeParameters | commit
  | exitCommissioning | commitAndExit | testBayStep | restart
deriving DecidableEq, Repr

/-- The result codes, in the order of R155. -/
inductive Result where
  | accepted | done | already | clamped | privilege | format | wrongMode | wrongPhase
  | wrongState | noPermit | queueFull | seqError | duplicate | notFound | busy | emergency
  | causesActive | notProven | isolationLimit | invalidArgument | validation | wearLimit
deriving DecidableEq, Repr

/-! ### Berth Sequencer and Alignment Unit (chapters 2 and 3) -/

/-- One approach record as the queue holds it (R20). -/
structure Approach where
  seq : Nat
  trainId : Nat
  profile : Nat
  orientation : Orientation
  service : ServiceKind
  dwell : Option Seconds
deriving DecidableEq, Repr

/-- The permit of a berth (R33). -/
inductive Permit where
  | notGranted | bySignalling | byStation
deriving DecidableEq, Repr

/-- The source of the stop offset (R49). -/
inductive Source where
  | fused | beams | trainOnly
deriving DecidableEq, Repr

/-- The alignment outcome, in the order of R163. -/
inductive AlignOutcome where
  | notMade | aligned | misaligned | undetermined | noMatch
deriving DecidableEq, Repr

/-- The class of one bay in the bay map (R53, R55). -/
inductive BayClass where
  | served (door : Nat) (overlap : Mm)
  | conflict (doors : List Nat)
  | partialFit
  | idle
  | unavailable
deriving DecidableEq, Repr

/-- What an alignment used, as STATUS_READ shows it (R43): the pattern, m, and lo and hi where they
exist; and the train offset it used (R58). -/
structure AlignUsed where
  pattern : BitVec 16
  m : Nat
  interval : Option (Mm × Mm)
  offset : Option Mm
deriving DecidableEq, Repr

/-- The alignment result of the berth record (R26, R47): the fields only an alignment writes. -/
structure AlignResult where
  d : Option (Mm × Source)
  outcome : AlignOutcome
  map : Option (List BayClass)
  inhibit : List Nat
  reposition : Option Mm
  /-- the profile and orientation on which the alignment was made (R57) -/
  on : Option (Nat × Orientation)
  used : Option AlignUsed
deriving DecidableEq, Repr

/-- No alignment: every field absent or empty, outcome NONE (R26). R37 names the fields that movement
clears without the pattern, m, lo and hi of R43; they go with the rest (DESIGN CHOICE, assumption 53). -/
def AlignResult.clear : AlignResult := ⟨none, .notMade, none, [], none, none, none⟩

/-- The berth record (R26). -/
structure Berth where
  trainId : Option Nat
  identifiedId : Option Nat
  profile : Option Nat
  orientation : Option Orientation
  service : Option ServiceKind
  approachSeq : Option Nat
  announced : Bool
  identified : Bool
  confirmed : Bool
  disputed : Bool
  align : AlignResult
  permit : Permit
  dwell : Option Seconds
  openComplete : Option Seconds
  /-- the bays-opened set, ascending -/
  opened : List Nat
  /-- the dwell timer: its start, while it runs (R42) -/
  dwellFrom : Option Millis
  /-- the dwell timer has been cancelled, by a close or an EVAC_OPEN that started or by an unexpected movement
  while it ran, and starts no more in the berth (R38, R42) -/
  dwellOff : Bool
deriving DecidableEq, Repr

/-- The last berth summary (R40). -/
structure Summary where
  trainId : Option Nat
  approachSeq : Option Nat
  d : Option Mm
  outcome : AlignOutcome
  baysOpened : Nat
deriving DecidableEq, Repr

/-- What the Berth Sequencer and the Alignment Unit hold (R21, R26, R27, R32, R40, R44, R45). -/
structure BerthState where
  queue : List Approach
  expected : Option Nat
  syncLost : Bool
  lastBound : Option Nat
  phase : Phase
  record : Option Berth
  summary : Option Summary
  /-- a stop is held pending (R32) -/
  pendingStop : Bool
  /-- the held train offset (R44) -/
  heldOffset : Option Mm
  /-- the start of the stability count while it runs (R45) -/
  stableFrom : Option Millis
  /-- the beam stop of the present count has been taken (R45) -/
  stopTaken : Bool
  /-- the start of the DEPART_CLEAR count of R40 and R41 while it runs -/
  clearFrom : Option Millis
deriving DecidableEq, Repr

/-! ### Door Sequencer (chapter 4) -/

/-- The speed of a closing bay (R61). -/
inductive Speed where
  | normal | nudge
deriving DecidableEq, Repr

/-- The manner of a reopening (R61). -/
inductive Manner where
  | full | standing
deriving DecidableEq, Repr

/-- Why a bay is HELD (R61). -/
inductive HeldReason where
  | obstructionLimit | openingBlocked
deriving DecidableEq, Repr

/-- Why a bay is in FAULT (R61). -/
inductive FaultReason where
  | nodeLost | discrepant | openTimeout | closeTimeout | unexpectedOpen
deriving DecidableEq, Repr

/-- The state of a bay with its qualifier (R61, R62). In REOPENING, `holding` tells whether
REOPEN_HOLD runs (fully open, or STANDING) or still OPEN_TIMEOUT (R73). -/
inductive BayState where
  | locked
  | opening
  | opened
  | closeWait
  | closing (speed : Speed)
  | reopening (manner : Manner) (holding : Bool)
  | held (reason : HeldReason)
  | released
  | fault (reason : FaultReason)
  | isolated
  | test
deriving DecidableEq, Repr

/-- The operation kinds, in the order of R64. -/
inductive OpKind where
  | openOp | evacOpen | closeOp | rearmClose | recoverClose | movementClose | linklossClose
deriving DecidableEq, Repr

/-- Who started an operation (R64). -/
inductive Origin where
  | train | attendant | supervisor | part
deriving DecidableEq, Repr

/-- The status of the operation record (R64). -/
inductive OpStatus where
  | busy | done | aborted
deriving DecidableEq, Repr

/-- Why an operation was aborted (R66). -/
inductive AbortReason where
  | superseded | movement | emergency
deriving DecidableEq, Repr

/-- The outcome of one target bay (R65). -/
inductive BayOutcome where
  | reached | held | fault | dropped
deriving DecidableEq, Repr

/-- The operation record (R64). A target without an entry in `outcomes` has no outcome yet. -/
structure Operation where
  kind : OpKind
  origin : Origin
  targets : List Nat
  status : OpStatus
  abort : Option AbortReason
  outcomes : List (Nat × BayOutcome)
  start : Seconds
  finish : Option Seconds
deriving DecidableEq, Repr

/-- Which close is taking a bay (R74): an operation of a close kind, or a single-bay action. -/
inductive CloseBy where
  | operation (kind : OpKind)
  | retryBay
  | closeBay
deriving DecidableEq, Repr

/-- The isolation field of a bay record (R142). -/
inductive Isolation where
  | notIsolated | pending | byContact | byConcurrence
deriving DecidableEq, Repr

/-- A request of the pending-isolation list (R142): its bay, its request time in platform seconds,
and the moment the window is timed from (R146). -/
structure IsolationRequest where
  bay : Nat
  time : Seconds
  since : Millis
deriving DecidableEq, Repr

/-! ### Door Bus Master (chapter 5) -/

/-- The proving class of a bay (R89). -/
inductive ProvingClass where
  | unknown | provenLocked | closedUnlocked | notClosed | lockDiscrepant | impossible
deriving DecidableEq, Repr

/-- The commissioning steps (R94). -/
inductive Step where
  | unlock | opening | closing | locking
deriving DecidableEq, Repr

/-- The step position of a TEST bay (R94). -/
inductive StepPosition where
  | locked | unlocked | opened | closed
deriving DecidableEq, Repr

/-- The result of a commissioning step (section 5.5). -/
inductive StepResult where
  | complete | failed
deriving DecidableEq, Repr

/-- What a TEST bay has of its own (section 5.5): its position, the step in progress with its start,
and the result of its last step. -/
structure StepRecord where
  position : StepPosition
  progress : Option (Step × Millis)
  last : Option StepResult
deriving DecidableEq, Repr

/-- The reconciliation result of a bay at a load (R93, R170). -/
inductive Recon where
  | reply (r : NodeReply) (cls : ProvingClass)
  | lost
deriving DecidableEq, Repr

/-- The command a poll carries (R62, R85). -/
inductive BusCommand where
  | hold | opening | closeNormal | closeNudge | free | step (s : Step)
deriving DecidableEq, Repr

/-- One poll as it stands on the Door Bus (R84): bay, command, and the number of the last motion
event accepted from that node. -/
structure Poll where
  bay : Nat
  command : BusCommand
  acknowledged : Option Bool
deriving DecidableEq, Repr

/-- What the Door Bus Master holds for the bus as a whole (R84). -/
structure BusState where
  /-- the bays polled, 1..pollCount -/
  pollCount : Nat
  /-- the bay the next poll goes to -/
  nextBay : Nat
  /-- the moment from which the next poll may be made -/
  nextPollAt : Millis
  /-- the bay whose reply is awaited in its slot -/
  awaiting : Option Nat
  /-- the latest poll sent -/
  last : Option Poll
deriving DecidableEq, Repr

/-! ### Sensing Unit (chapter 6) -/

/-- The gap-check status (R96). -/
inductive GapStatus where
  | notRequired | pending | passed | failed
deriving DecidableEq, Repr

/-- The intrusion state (R96). -/
inductive Intrusion where
  | clear | active | frozen
deriving DecidableEq, Repr

/-- What the Sensing Unit holds for the platform (R96), with the bay of the last raise (R108). -/
structure SenseState where
  intrusion : Intrusion
  watchStart : Option Millis
  lastBay : Option Nat
deriving DecidableEq, Repr

/-- One bay: its record in the bay table (R61), what the Door Bus Master holds for it (section 5),
and what the Sensing Unit holds for it (R96). -/
structure Bay where
  -- Door Sequencer (R61)
  /-- absent until a load has set it (R61, R84) -/
  state : Option BayState
  /-- the start of the timer of the present state (R62) -/
  timer : Option Millis
  retry : Nat
  isolation : Isolation
  evacOpened : Bool
  cycled : Bool
  obstructed : Bool
  /-- the close that is taking the bay (R74) -/
  closeBy : Option CloseBy
  -- Door Bus Master (section 5)
  /-- the node health is LOST (otherwise LIVE) -/
  lost : Bool
  missed : Nat
  lastReply : Option (NodeReply × Seconds)
  cls : ProvingClass
  lastEvent : Option Bool
  discrepancyFrom : Option Millis
  /-- the running discrepancy timer has reached DISCREPANCY_PERSIST (R90) -/
  discrepancyTaken : Bool
  recoveryFrom : Option Millis
  step : Option StepRecord
  recon : Option Recon
  -- Sensing Unit (R96)
  presence : Bool
  presenceSince : Millis
  stuck : Bool
  zone : Bool
  zoneSince : Millis
  /-- the next good reply sets the zone reading afresh (R97, R148) -/
  zoneFresh : Bool
  /-- the present occupied run has been confirmed as an intrusion (R106) -/
  zoneConfirmed : Bool
  gap : GapStatus
  gapFrom : Option Millis
deriving DecidableEq, Repr

/-- A bay record with every field at its value after power-on at time `now` (R61, R87, R96). -/
def Bay.blank (now : Millis) : Bay where
  state := none
  timer := none
  retry := 0
  isolation := .notIsolated
  evacOpened := false
  cycled := false
  obstructed := false
  closeBy := none
  lost := false
  missed := 0
  lastReply := none
  cls := .unknown
  lastEvent := none
  discrepancyFrom := none
  discrepancyTaken := false
  recoveryFrom := none
  step := none
  recon := none
  presence := false
  presenceSince := now
  stuck := false
  zone := false
  zoneSince := now
  zoneFresh := false
  zoneConfirmed := false
  gap := .notRequired
  gapFrom := none

/-- What the Door Sequencer holds beside the bay records: the number of bays of the bay table (R61),
the operation record (R64) and the pending-isolation list (R142). -/
structure DoorState where
  count : Nat
  operation : Option Operation
  requests : List IsolationRequest
deriving DecidableEq, Repr

/-! ### Emergency Monitor (chapter 8) -/

/-- The contacts that released a bay (R118, R119). -/
inductive ReleaseContact where
  | rh | pk | both
deriving DecidableEq, Repr

/-- The suspended context (R127). -/
structure Context where
  savedMode : Mode
  savedPhase : Phase
  operation : Option Operation
  lockedAtEntry : List Nat
  entry : Seconds
deriving DecidableEq, Repr

/-- What the Emergency Monitor holds (R118, R127). -/
structure EmergencyState where
  evacuation : Bool
  released : List (Nat × ReleaseContact)
  context : Option Context
deriving DecidableEq, Repr

/-! ### Secure Evaluator (chapter 7) -/

/-- The withheld-reason set (R112), in the order of R163. -/
structure Reasons where
  mode : Bool
  bayNotLocked : Bool
  gapCheck : Bool
  intrusion : Bool
  emergency : Bool
  outputFault : Bool
deriving DecidableEq, Repr

/-- What the Secure Evaluator holds (R111). A drive is ENERGISED where `true`; a disagreement timer
holds its start while it runs; the latch names its channels. The readbacks are input lines. -/
structure SecureState where
  asserted : Bool
  reasons : Reasons
  changed : Seconds
  driveA : Bool
  driveB : Bool
  disagreeA : Option Millis
  disagreeB : Option Millis
  latchA : Bool
  latchB : Bool
deriving DecidableEq, Repr

/-! ### Alarm List (chapter 11) -/

/-- The alarm kinds, in the order of section 11.5. -/
inductive AlarmKind where
  | queueGap | unannouncedArrival | identityMismatch | beamIncoherent | offsetDisagree
  | bayConflict | noMatch | obstructionHeld | unexpectedMovement | provingDiscrepant | nodeLost
  | openTimeout | closeTimeout | presenceStuck | gapOccupied | trackIntrusion | bayReleased
  | evacuation | sigLinkLost | trainLinkLost | isolationExpired | authorityRefused
  | outputFault | restart | storeFault
deriving DecidableEq, Repr

/-- The detail a raising rule gives an alarm (R164). -/
inductive AlarmDetail where
  | sequence (expected received : Nat)
  | profiles (announced : Option Nat) (identified : Nat)
  | beams (pattern : BitVec 16)
  | disagreement (t lo hi : Mm)
  | doors (doors : List Nat)
  | noMatch (profile : Nat) (orientation : Orientation) (d : Mm)
  | code (code : Nat)
  | unexpectedOpen (code : Nat)
  | beyondLimit
  | bay (bay : Nat)
  | contact (contact : ReleaseContact)
  | bayState (state : BayState)
  | refused (port : Port) (kind : ReqKind)
  | channel (channel : Channel) (drive readback : Bool)
  | store (detail : StoreDetail)
deriving DecidableEq, Repr

/-- One alarm entry (R164); `active` is state ACTIVE, otherwise CLEARED. -/
structure AlarmEntry where
  kind : AlarmKind
  bay : Option Nat
  detail : Option AlarmDetail
  raised : Seconds
  count : Nat
  active : Bool
  acked : Bool
deriving DecidableEq, Repr

/-- The Alarm List (R164), oldest entry first. -/
structure AlarmState where
  entries : List AlarmEntry
  overflow : Bool
deriving DecidableEq, Repr

/-! ### Configuration Store (chapter 12) -/

/-- The commit state (R169): writing since a moment, for a COMMIT or a COMMIT_AND_EXIT. -/
inductive CommitState where
  | idle
  | writing (since : Millis) (thenExit : Bool)
deriving DecidableEq, Repr

/-- What the Configuration Store holds (R169), with the content in force (R12) and the outcome of
the last reading of the image (R170): `none` where it passed. -/
structure StoreState where
  image : Content
  checksum : BitVec 16
  writeCount : Nat
  working : Option Content
  commit : CommitState
  inForce : Option Content
  loadDetail : Option StoreDetail
deriving DecidableEq, Repr

/-! ### Link Interface: watches and authority (chapters 9 and 10) -/

/-- What the Link Interface holds of its links (R135, R139, R151, R153). A running timer is held as
the moment it runs out. -/
structure LinkState where
  /-- the watchdog is RUNNING until this moment, or EXPIRED -/
  watchdog : Option Millis
  trainUp : Bool
  /-- the Train Link loss timer runs out at this moment -/
  trainLossAt : Millis
  /-- the time of the last valid Train Link frame -/
  lastTrainFrame : Option Millis
  strap : Nat
  /-- the Station Link authority level is SUPERVISOR (otherwise ATTENDANT) -/
  supervisor : Bool
deriving DecidableEq, Repr

/-- A set of notice classes (R159). -/
structure ClassSet where
  secure : Bool
  phase : Bool
  operation : Bool
  alarm : Bool
  emergency : Bool
  dwell : Bool
  gap : Bool
deriving DecidableEq, Repr

/-! ### Messages (chapter 10) -/

/-- PLATFORM_STATUS (R156). -/
structure PlatformStatus where
  mode : Mode
  secure : Bool
  reasons : Reasons
  phase : Phase
  permit : Permit
  lastBound : Option Nat
  queueLength : Nat
  syncLost : Bool
  opStatus : Option OpStatus
  opKind : Option OpKind
  opOrigin : Option Origin
  emergency : Bool
  seconds : Seconds
deriving DecidableEq, Repr

/-- BERTH_REPORT (R57). -/
structure BerthReport where
  outcome : AlignOutcome
  profile : Option Nat
  orientation : Option Orientation
  d : Option Mm
  source : Option Source
  reposition : Option Mm
  inhibit : List Nat
deriving DecidableEq, Repr

/-- One SERVED bay of a DOOR_REPORT (R65, R163). -/
structure DoorReportItem where
  bay : Nat
  door : Nat
  state : Option BayState
  outcome : Option BayOutcome
deriving DecidableEq, Repr

/-- DOOR_REPORT (R65): kind, origin and status are absent while no operation record exists. -/
structure DoorReport where
  kind : Option OpKind
  origin : Option Origin
  status : Option OpStatus
  abort : Option AbortReason
  bays : List DoorReportItem
deriving DecidableEq, Repr

/-- What is to be told of an operation (R65): the number of targets with each outcome. -/
structure OpSummary where
  kind : OpKind
  origin : Origin
  status : OpStatus
  abort : Option AbortReason
  reached : Nat
  held : Nat
  fault : Nat
  dropped : Nat
deriving DecidableEq, Repr

/-- The cause set as a message carries it (R119). -/
structure CauseSet where
  evacuation : Bool
  bays : List Nat
deriving DecidableEq, Repr

/-- The event an EMERGENCY notice reports (R119). -/
inductive EmergencyEvent where
  | joinedBay (bay : Nat) | joinedEvacuation | leftBay (bay : Nat) | leftEvacuation
  | entered | returned
deriving DecidableEq, Repr

/-- The detail of a notice, by class (R158). -/
inductive NoticeDetail where
  | secure (asserted : Bool) (reasons : Reasons) (changed : Seconds)
  | phase (phase : Phase)
  | operationChange (summary : OpSummary)
  | isolated (bay : Nat) (manner : Isolation)
  | stepEnd (bay : Nat) (step : Step) (result : StepResult)
  | commitEnd (result : Result) (writeCount : Nat)
  | alarm (kind : AlarmKind) (bay : Option Nat) (detail : Option AlarmDetail) (count : Nat)
      (active : Bool) (unacknowledged : Nat) (overflow : Bool)
  | emergency (event : EmergencyEvent) (causes : CauseSet) (mode : Mode)
  | emergencyReturn (causes : CauseSet) (mode : Mode) (savedPhase : Option Phase)
      (operation : Option Operation) (phase : Phase)
  | dwell (trainId : Option Nat)
  | gap (cause : Nat) (failed : List (Nat × Option Nat))
deriving DecidableEq, Repr

/-- A notice of one class with its fold count (R158, R160). -/
structure Notice where
  cls : NoticeClass
  fold : Nat
  detail : NoticeDetail
deriving DecidableEq, Repr

/-- What STATUS_READ shows of one bay: state, map class, usage flags (R82), gap check (R96), and the
release contacts of the last good reply (R121). -/
structure BaySummary where
  bay : Nat
  state : Option BayState
  cls : Option BayClass
  cycled : Bool
  obstructed : Bool
  gap : GapStatus
  rh : Option Bool
  pk : Option Bool
deriving DecidableEq, Repr

/-- What STATUS_READ shows of the berth record: the fields of R26, with what the alignment used (R43). -/
structure BerthView where
  trainId : Option Nat
  identifiedId : Option Nat
  profile : Option Nat
  orientation : Option Orientation
  service : Option ServiceKind
  approachSeq : Option Nat
  announced : Bool
  identified : Bool
  confirmed : Bool
  disputed : Bool
  align : AlignResult
  permit : Permit
  dwell : Option Seconds
  openComplete : Option Seconds
  opened : List Nat
deriving DecidableEq, Repr

/-- What STATUS_READ shows of the Secure Evaluator (R111); a running disagreement timer is shown by its
start in platform seconds (R1, R115). -/
structure SecureView where
  asserted : Bool
  reasons : Reasons
  changed : Seconds
  driveA : Bool
  driveB : Bool
  readbackA : Bool
  readbackB : Bool
  timerA : Option Seconds
  timerB : Option Seconds
  latchA : Bool
  latchB : Bool
deriving DecidableEq, Repr

/-- What STATUS_READ shows (R154): everything the chapters say it shows, times in platform seconds
(R1). -/
structure StatusView where
  mode : Mode
  phase : Phase
  berth : Option BerthView
  summary : Option Summary
  heldOffset : Option Mm
  pattern : BitVec 16
  operation : Option Operation
  bays : List BaySummary
  intrusion : Intrusion
  intrusionBay : Option Nat
  secure : SecureView
  causes : CauseSet
  released : List (Nat × ReleaseContact)
  context : Option Context
  watchdogRunning : Bool
  trainUp : Bool
  sinceTrainFrame : Option Seconds
  /-- the pending list in its order: bay, request time, seconds left -/
  requests : List (Nat × Seconds × Seconds)
  isolated : List (Nat × Isolation)
  outboxLength : Nat
  lost : Nat
  overflow : Bool
  writeCount : Nat
  /-- the commit state is WRITING -/
  writing : Bool
  hasWorking : Bool
deriving DecidableEq, Repr

/-- What BAY_READ shows: the bay record (R61), what the Door Bus Master holds for the bay (R87) with its
step (section 5.5), and what the Sensing Unit holds (R96), times in platform seconds. -/
structure BayView where
  number : Nat
  state : Option BayState
  cls : Option BayClass
  retry : Nat
  isolation : Isolation
  evacOpened : Bool
  cycled : Bool
  obstructed : Bool
  lost : Bool
  missed : Nat
  lastReply : Option (NodeReply × Seconds)
  code : Option Nat
  proving : ProvingClass
  discrepancyRuns : Bool
  recoveryRuns : Bool
  position : Option StepPosition
  step : Option Step
  stepResult : Option StepResult
  presence : Bool
  presenceSince : Seconds
  presenceFor : Seconds
  stuck : Bool
  zone : Bool
  zoneSince : Seconds
  zoneFor : Seconds
  gap : GapStatus
  gapStarted : Option Seconds
deriving DecidableEq, Repr

/-- What QUEUE_READ shows (R21). -/
structure QueueView where
  queue : List Approach
  expected : Option Nat
  syncLost : Bool
  lastBound : Option Nat
  policy : Int
deriving DecidableEq, Repr

/-- What ALARM_READ shows (R168). -/
structure AlarmView where
  length : Nat
  unacknowledged : Nat
  overflow : Bool
  entries : List AlarmEntry
deriving DecidableEq, Repr

/-- What a probe returns (R60). -/
structure ProbeView where
  outcome : AlignOutcome
  reposition : Option Mm
  map : List BayClass
  inhibit : List Nat
deriving DecidableEq, Repr

/-- The result detail of a reply (R152). -/
inductive Detail where
  | empty
  | platformStatus (p : PlatformStatus)
  | status (v : StatusView)
  | bay (v : BayView)
  | alarms (v : AlarmView)
  | queue (v : QueueView)
  | entry (e : AlarmEntry)
  | purged (n : Nat)
  | probe (v : ProbeView)
  | store (d : StoreDetail)
deriving DecidableEq, Repr

/-- The body of a frame the part sends (R152, R157). -/
inductive Body where
  | reply (result : Result) (detail : Detail)
  | platformStatus (p : PlatformStatus)
  | berthReport (r : BerthReport)
  | doorReport (r : DoorReport)
  | notice (n : Notice) (lost : Nat)
deriving DecidableEq, Repr

/-- A frame the part sends (R162): on a link, with an address, a kind and a tag. -/
structure Frame where
  port : Port
  addr : Nat
  kind : Nat
  tag : Nat
  body : Body
deriving DecidableEq, Repr

/-- One interval of R160: the moment it ends while it runs, the latest event folded into it, and the
fold count. The pending flag is set while `latest` holds an event. -/
structure Fold where
  until_ : Option Millis
  latest : Option NoticeDetail
  count : Nat
deriving DecidableEq, Repr

/-- The five intervals of a port (R160). -/
structure Folds where
  phase : Fold
  operation : Fold
  alarm : Fold
  dwell : Fold
  gap : Fold
deriving DecidableEq, Repr

/-- What the Link Interface holds of the sending side of a port (R157, R159, R160). -/
structure PortState where
  number : Nat
  mask : ClassSet
  folds : Folds
deriving DecidableEq, Repr

/-- The sending side of the Link Interface: the three ports, the station outbox with its lost count
(R161), and the frames sent by the latest step, in the order they were made. -/
structure SendState where
  signalling : PortState
  train : PortState
  station : PortState
  outbox : List Notice
  lost : Nat
  sent : List Frame
deriving DecidableEq, Repr

/-! ### Input lines -/

/-- The input lines (00_scope.md section 2.2, R43): `true` is asserted, blocked or energised. -/
structure Lines where
  evac : Bool
  key : Bool
  addr : Nat
  /-- bit i is beam i, set while it reads blocked -/
  beams : BitVec 16
  readbackA : Bool
  readbackB : Bool
deriving DecidableEq, Repr

/-! ### The state -/

/-- The whole machine. -/
structure State where
  /-- the supply is applied -/
  powered : Bool
  /-- milliseconds since the last power-on or restart (R1) -/
  now : Millis
  lines : Lines
  mode : Mode
  link : LinkState
  send : SendState
  berth : BerthState
  doors : DoorState
  /-- the 24 bay records; the bay table is its first `doors.count` -/
  bays : List Bay
  bus : BusState
  sense : SenseState
  emer : EmergencyState
  secure : SecureState
  alarms : AlarmState
  store : StoreState
  /-- the MODEL's own: how many free values of Config.tornStore have been read -/
  freeCount : Nat
  /-- the commands waiting to be taken, first in, first out -/
  pending : List Instr
deriving DecidableEq, Repr

/-- Why a step stops. Nothing in the manual stops the part, so there is no constructor. -/
inductive Fault where
deriving DecidableEq, Repr

/-- Why a command has no meaning. -/
inductive Refusal where
  /-- raised by `exec` for a command that has no meaning yet; safe, since no state follows -/
  | notModelled (mnemonic : String)
deriving DecidableEq, Repr

/-! ### Reset -/

/-- An idle interval (R160). -/
def Fold.idle : Fold := ⟨none, none, 0⟩
/-- Every interval of a port idle, nothing pending (R160). -/
def Folds.idle : Folds := ⟨.idle, .idle, .idle, .idle, .idle⟩

/-- The default mask of the Signalling Link (R159). -/
def ClassSet.signallingDefault : ClassSet := ⟨true, true, false, false, true, false, false⟩
/-- The default mask of the Train Link (R159). -/
def ClassSet.trainDefault : ClassSet := ⟨false, true, true, false, true, true, true⟩
/-- The default mask of the Station Link (R159). -/
def ClassSet.stationDefault : ClassSet := ⟨true, true, true, true, true, true, true⟩

/-- The reason set {MODE} (R111). -/
def Reasons.modeOnly : Reasons := ⟨true, false, false, false, false, false⟩

/-- The input lines as they rest: EVAC and KEY released, straps 0, every beam clear, both readbacks
DE_ENERGISED (DESIGN CHOICE, assumption 2). -/
def Lines.rest : Lines := ⟨false, false, 0, 0#16, false, false⟩

/-- The PLATFORM_STATUS sent when STARTUP begins at power-on (R117). -/
def startupStatus : PlatformStatus :=
  ⟨.startup, false, .modeOnly, .vacant, .notGranted, none, 0, false, none, none, none, false, 0⟩

/-- The berth state after power-on and restart (R21, R27, R44, R45); the phase stands VACANT until
the load sets it (DESIGN CHOICE, assumption 3). -/
def BerthState.initial : BerthState :=
  ⟨[], none, false, none, .vacant, none, none, false, none, none, false, none⟩

/-- The machine right after power-on of a part as delivered (R19, R61, R87, R96, R111, R135, R139,
R159, R161, R164, R169): in STARTUP, with the load begun. -/
def State.reset : State where
  powered := true
  now := 0
  lines := .rest
  mode := .startup
  link := ⟨none, false, 0, none, 0, false⟩
  send := ⟨⟨1, .signallingDefault, .idle⟩, ⟨0, .trainDefault, .idle⟩, ⟨0, .stationDefault, .idle⟩,
    [], 0, [⟨.signalling, 0, 0xF0, 0, .platformStatus startupStatus⟩]⟩
  berth := .initial
  doors := ⟨24, none, []⟩
  bays := List.replicate 24 (Bay.blank 0)
  bus := ⟨24, 1, 0, none, none⟩
  sense := ⟨.clear, none, none⟩
  emer := ⟨false, [], none⟩
  secure := ⟨false, .modeOnly, 0, false, false, none, none, false, false⟩
  alarms := ⟨[], false⟩
  store := ⟨deliveredContent, checksumOf deliveredContent, 0, none, .idle, none,
    some (.violation ⟨.bayCount, .geometry, none, none⟩)⟩
  freeCount := 0
  pending := []

end Sys2Proof.Machine
end

