-- ==== Sys2Proof/Machine/Alignment.lean ====
section
/-!
DEFINITION. The arithmetic of the Alignment Unit (chapter 3): the beam pattern (R43), the fusion of
beams and train report into the stop offset (R49), the window (R51), and the bay map with its
inhibit list and outcome (R52 to R56). All of it is exact, in whole millimetres.
-/
namespace Sys2Proof.Machine
open Sys2Proof

/-! ### The beam pattern (R43) -/

/-- The number m of blocked beams. -/
def blockedCount (p : BitVec 16) : Nat := ((List.range 16).filter p.getLsbD).length

/-- The blocked beams are exactly beams 0..m-1. -/
def coherent (p : BitVec 16) : Bool :=
  (List.range 16).all fun i => p.getLsbD i == decide (i < blockedCount p)

/-- The beam interval lo, hi of a coherent pattern with m blocked beams: present for m in 1..15. -/
def beamInterval (c : Content) (m : Nat) : Option (Mm × Mm) :=
  if 1 ≤ m ∧ m ≤ 15 then some (c.beam (m - 1), c.beam m) else none

/-! ### The stop offset (R49, R50) -/

/-- What fusion gives: the stop offset with its source, and the detail of OFFSET_DISAGREE where the
train's figure was set aside. -/
structure Fix where
  d : Option (Mm × Source)
  disagreement : Option (Mm × Mm × Mm)
deriving DecidableEq, Repr

/-- The midpoint of a beam interval, half rounded down (R49). -/
def midpoint (lo hi : Mm) : Mm := lo + (hi - lo) / 2

/-- The stop offset from the beam pattern and the held train offset: the table of R49, row by row. -/
def fuse (c : Content) (p : BitVec 16) (t : Option Mm) : Fix :=
  let m := blockedCount p
  if coherent p then
    match beamInterval c m, t with
    | some (lo, hi), some x =>
      if lo - c.param .agreeTol ≤ x ∧ x < hi + c.param .agreeTol then
        ⟨some (max lo (min x (hi - 1)), .fused), none⟩
      else ⟨some (midpoint lo hi, .beams), some (x, lo, hi)⟩
    | some (lo, hi), none => ⟨some (midpoint lo hi, .beams), none⟩
    | none, some x =>
      if (m = 0 ∧ x < c.beam 0) ∨ (m = 16 ∧ c.beam 15 ≤ x) then ⟨some (x, .trainOnly), none⟩
      else ⟨none, none⟩
    | none, none => ⟨none, none⟩
  else ⟨t.map fun x => (x, .trainOnly), none⟩

/-- The stop offset lies outside ALIGN_WINDOW (R51). -/
def outsideWindow (c : Content) (d : Mm) : Bool := decide (c.param .alignWindow < max d (-d))

/-! ### Door spans and candidates (R52 to R54) -/

/-- The effective offset of door `k` (R52). -/
def effectiveOffset (p : Profile) (o : Orientation) (k : Nat) : Mm :=
  match o with
  | .forward => (p.door k).offset
  | .reversed => p.length - (p.door k).offset

/-- The platform span of door `k` of a train stopped at `d` (R52). -/
def platformSpan (p : Profile) (o : Orientation) (d : Mm) (k : Nat) : Span :=
  spanOf (d - effectiveOffset p o k) (p.door k).width

/-- The bay with the largest overlap among bays in ascending order, the lowest-numbered of equals,
with that overlap (R54). -/
def bestBay (c : Content) (door : Span) : List Nat → Option (Nat × Mm)
  | [] => none
  | b :: bs =>
    let o := overlap (c.baySpan b) door
    match bestBay c door bs with
    | some (b', o') => if o < o' then some (b', o') else some (b, o)
    | none => some (b, o)

/-- The candidate of a door: its best available bay, where their overlap reaches MIN_CLEAR (R54). -/
def candidate (c : Content) (p : Profile) (avail : List Nat) (door : Span) : Option (Nat × Mm) :=
  match bestBay c door avail with
  | some (b, o) => if p.minClear ≤ o ∧ 0 < o then some (b, o) else none
  | none => none

/-- One door of the train as the map sees it: its number, its platform span and its candidate. -/
structure DoorFit where
  door : Nat
  span : Span
  best : Option (Nat × Mm)
deriving DecidableEq, Repr

/-- Every door 1..n laid against the available bays (R52, R54). -/
def doorFits (c : Content) (p : Profile) (o : Orientation) (d : Mm) (avail : List Nat) :
    List DoorFit :=
  (upTo p.count).map fun k =>
    let span := platformSpan p o d k
    ⟨k, span, candidate c p avail span⟩

/-! ### Bay classes, inhibit list, outcome (R55, R56) -/

/-- The doors that have bay `b` as their candidate, each with its overlap. -/
def takersOf (fits : List DoorFit) (b : Nat) : List (Nat × Mm) :=
  fits.filterMap fun f =>
    match f.best with
    | some (b', o) => if b' = b then some (f.door, o) else none
    | none => none

/-- The class of bay `b` (R53, R55). -/
def classOf (c : Content) (fits : List DoorFit) (avail : List Nat) (b : Nat) : BayClass :=
  if avail.contains b then
    match takersOf fits b with
    | [] => if fits.any fun f => decide (0 < overlap (c.baySpan b) f.span) then .partialFit else .idle
    | [(k, o)] => .served k o
    | ks => .conflict (ks.map (·.1))
  else .unavailable

/-- The bay map over bays 1..N (R55). -/
def bayMap (c : Content) (p : Profile) (o : Orientation) (d : Mm) (avail : List Nat) :
    List BayClass :=
  let fits := doorFits c p o d avail
  (upTo c.count).map (classOf c fits avail)

/-- Door `k` is the matched door of a SERVED bay. -/
def BayClass.serves (k : Nat) : BayClass → Bool
  | .served door _ => door == k
  | _ => false

/-- The class is SERVED. -/
def BayClass.isServed : BayClass → Bool
  | .served _ _ => true
  | _ => false

/-- The door inhibit list of a map: every door that no SERVED bay matches (R56). -/
def inhibitList (n : Nat) (map : List BayClass) : List Nat :=
  (upTo n).filter fun k => !map.any (·.serves k)

/-- The outcome a map decides (R56). -/
def mapOutcome (map : List BayClass) : AlignOutcome :=
  if map.any BayClass.isServed then .aligned else .noMatch

/-- The bays in CONFLICT, each with its candidate doors (R55). -/
def conflicts (map : List BayClass) : List (Nat × List Nat) :=
  (upTo map.length).filterMap fun b : Nat =>
    match (map[b - 1]? : Option BayClass) with
    | some (.conflict ks) => some (b, ks)
    | _ => none

/-! ### The whole result (R47) -/

/-- The alignment of a stop: the content, the available bays, profile slot and orientation, the beam
pattern and the held offset decide every field of the result (R47 to R56). -/
def alignment (c : Content) (avail : List Nat) (slot : Nat) (o : Orientation) (pattern : BitVec 16)
    (t : Option Mm) : AlignResult :=
  let p := c.profile slot
  let m := blockedCount pattern
  let used : AlignUsed :=
    ⟨pattern, m, if coherent pattern then beamInterval c m else none, t⟩
  let fix := fuse c pattern t
  match fix.d with
  | none => ⟨none, .undetermined, none, upTo p.count, none, some (slot, o), some used⟩
  | some (d, src) =>
    if outsideWindow c d then
      ⟨some (d, src), .misaligned, none, upTo p.count, some (-d), some (slot, o), some used⟩
    else
      let map := bayMap c p o d avail
      ⟨some (d, src), mapOutcome map, some map, inhibitList p.count map, none, some (slot, o),
        some used⟩

/-- The result of a probe: the window decides only MISALIGNED and the reposition distance; map and
inhibit list are computed on either side of it (R60). -/
def probe (c : Content) (avail : List Nat) (slot : Nat) (o : Orientation) (d : Mm) : ProbeView :=
  let p := c.profile slot
  let map := bayMap c p o d avail
  if outsideWindow c d then ⟨.misaligned, some (-d), map, inhibitList p.count map⟩
  else ⟨mapOutcome map, none, map, inhibitList p.count map⟩

end Sys2Proof.Machine
end

