-- ==== Sys2Proof/Machine/Ops.lean ====
section
/-!
DEFINITION. The named operations every block uses: the clock and the content in force, the bay
records, the messages to the three masters (chapter 10), the Alarm List (chapter 11), and a change
of phase or mode with its reports (R27, R156).
-/
namespace Sys2Proof.Machine
open Sys2Proof

/-! ### Clock and content -/

/-- Platform seconds (R1). -/
def State.seconds (s : State) : Seconds := s.now / 1000

/-- The content the blocks work to: the content in force (R12), or the substitute of R13. -/
def State.content (s : State) : Content := s.store.inForce.getD substituteContent

/-- A parameter in force, as a count or duration (R11). -/
def State.param (s : State) (p : Param) : Nat := (s.content.param p).toNat

/-- The duration `d` has run since `start` (R2). -/
def State.elapsed (s : State) (start d : Millis) : Bool := decide (start + d ≤ s.now)

/-- A timer that may be stopped has run for `d`. -/
def State.elapsedFrom (s : State) (start : Option Millis) (d : Millis) : Bool :=
  match start with
  | none => false
  | some t => s.elapsed t d

/-! ### Bays -/

/-- Bay record `b`, 1..24. -/
def State.bay (s : State) (b : Nat) : Bay :=
  if b = 0 then Bay.blank 0 else s.bays.getD (b - 1) (Bay.blank 0)

/-- Changes bay record `b` alone. -/
def State.setBay (b : Nat) (f : Bay → Bay) (s : State) : State :=
  { s with bays := if b = 0 then s.bays else s.bays.modify (b - 1) f }

/-- Changes every bay record alike. -/
def State.mapBays (f : Bay → Bay) (s : State) : State := { s with bays := s.bays.map f }

/-- The bays of the bay table, 1..N (R61). -/
def State.tableBays (s : State) : List Nat := upTo s.doors.count

/-- The bay table holds bay `b`. -/
def State.inTable (s : State) (b : Nat) : Bool := decide (1 ≤ b ∧ b ≤ s.doors.count)

/-- LOCKED or ISOLATED: what counts as locked (R38, R112). -/
def BayState.isShut : BayState → Bool
  | .locked | .isolated => true
  | _ => false

/-- ISOLATED, FAULT or RELEASED: unavailable to alignment (R53). -/
def BayState.isUnavailable : BayState → Bool
  | .isolated | .fault _ | .released => true
  | _ => false

/-- FAULT, whatever the reason. -/
def BayState.isFault : BayState → Bool
  | .fault _ => true
  | _ => false

/-- HELD, whatever the reason. -/
def BayState.isHeld : BayState → Bool
  | .held _ => true
  | _ => false

/-- A motion state or OPEN (R62). -/
def BayState.isActive : BayState → Bool
  | .opening | .opened | .closeWait | .closing _ | .reopening _ _ => true
  | _ => false

/-- OPENING, OPEN, REOPENING or CLOSE_WAIT: what the ordinary close kinds target (R69). -/
def BayState.isCloseTarget : BayState → Bool
  | .opening | .opened | .closeWait | .reopening _ _ => true
  | _ => false

/-- LOCKED, OPENING, CLOSE_WAIT, CLOSING or REOPENING: what the open kinds target (R67, R124). -/
def BayState.isOpenTarget : BayState → Bool
  | .locked | .opening | .closeWait | .closing _ | .reopening _ _ => true
  | _ => false

/-- Not LOCKED, ISOLATED, RELEASED or FAULT: what MOVEMENT_CLOSE targets (R69, R77). -/
def BayState.isMovementTarget : BayState → Bool
  | .locked | .isolated | .released | .fault _ => false
  | _ => true

/-- The bay is in a state that satisfies `p`; a bay without a state satisfies none. -/
def State.bayIs (s : State) (b : Nat) (p : BayState → Bool) : Bool :=
  match (s.bay b).state with
  | some st => p st
  | none => false

/-- The map class of a bay, copied from the bay map of the berth record (R61). -/
def State.mapClass (s : State) (b : Nat) : Option BayClass :=
  match s.berth.record with
  | none => none
  | some r => match r.align.map with
    | none => none
    | some m => if b = 0 then none else m[b - 1]?

/-- The matched door of a SERVED bay (R55). -/
def State.matchedDoor (s : State) (b : Nat) : Option Nat :=
  match s.mapClass b with
  | some (.served door _) => some door
  | _ => none

/-- The map class of the bay is SERVED. -/
def State.isServed (s : State) (b : Nat) : Bool := (s.matchedDoor b).isSome

/-- The SERVED bays, ascending. -/
def State.servedBays (s : State) : List Nat := s.tableBays.filter s.isServed

/-- The gap class of a bay in the content in force (R6, R13). -/
def State.gapClass (s : State) (b : Nat) : Nat := (s.content.bay b).gapClass

/-- The operation that is BUSY, if any (R64). -/
def State.busy (s : State) : Option Operation :=
  match s.doors.operation with
  | some o => if o.status = .busy then some o else none
  | none => none

/-- The emergency cause set is empty (R118). -/
def State.noCause (s : State) : Bool := !s.emer.evacuation && s.emer.released.isEmpty

/-- The cause set as messages carry it (R119). -/
def State.causes (s : State) : CauseSet := ⟨s.emer.evacuation, s.emer.released.map (·.1)⟩

/-- All sixteen beams read clear. -/
def State.beamsClear (s : State) : Bool := s.lines.beams == 0#16

/-- Beam 0 reads blocked. -/
def State.beam0 (s : State) : Bool := s.lines.beams.getLsbD 0

/-! ### Sending: ports, notices and folding (R157 to R161) -/

/-- The class set holds a class. -/
def ClassSet.has (m : ClassSet) : NoticeClass → Bool
  | .secure => m.secure | .phase => m.phase | .operation => m.operation | .alarm => m.alarm
  | .emergency => m.emergency | .dwell => m.dwell | .gap => m.gap

/-- The class of a notice detail (R158). -/
def NoticeDetail.cls : NoticeDetail → NoticeClass
  | .secure _ _ _ => .secure
  | .phase _ => .phase
  | .operationChange _ | .isolated _ _ | .stepEnd _ _ _ | .commitEnd _ _ => .operation
  | .alarm _ _ _ _ _ _ _ => .alarm
  | .emergency _ _ _ | .emergencyReturn _ _ _ _ _ => .emergency
  | .dwell _ => .dwell
  | .gap _ _ => .gap

/-- The interval of a folded class (R160); the classes that are not folded have none. -/
def Folds.get (f : Folds) : NoticeClass → Option Fold
  | .phase => some f.phase | .operation => some f.operation | .alarm => some f.alarm
  | .dwell => some f.dwell | .gap => some f.gap
  | .secure | .emergency => none

/-- Replaces the interval of a folded class. -/
def Folds.set (f : Folds) (c : NoticeClass) (x : Fold) : Folds :=
  match c with
  | .phase => { f with phase := x } | .operation => { f with operation := x }
  | .alarm => { f with alarm := x } | .dwell => { f with dwell := x }
  | .gap => { f with gap := x }
  | .secure | .emergency => f

/-- The sending side of a port. -/
def SendState.port (d : SendState) : Port → PortState
  | .signalling => d.signalling | .train => d.train | .station => d.station

/-- Changes the sending side of one port. -/
def SendState.setPort (p : Port) (f : PortState → PortState) (d : SendState) : SendState :=
  match p with
  | .signalling => { d with signalling := f d.signalling }
  | .train => { d with train := f d.train }
  | .station => { d with station := f d.station }

/-- Appends a frame to those the step sends (R157). -/
def SendState.push (x : Frame) (d : SendState) : SendState := { d with sent := d.sent ++ [x] }

/-- Sends a frame unprompted: its tag is the message sequence number of the port, which goes up by
one, after 255 to 0 (R157). -/
def SendState.unsolicited (p : Port) (addr kind : Nat) (body : Body) (d : SendState) : SendState :=
  (d.push ⟨p, addr, kind, (d.port p).number, body⟩).setPort p
    fun q => { q with number := (q.number + 1) % 256 }

/-- A notice joins the station outbox at its tail; a full outbox loses its head and counts it
(R161). -/
def SendState.queueNotice (n : Notice) (d : SendState) : SendState :=
  if d.outbox.length < outboxLimit then { d with outbox := d.outbox ++ [n] }
  else { d with outbox := d.outbox.drop 1 ++ [n], lost := min 255 (d.lost + 1) }

/-- A notice is sent on its port; for the Station Link that is joining the outbox (R160). -/
def SendState.emit (p : Port) (n : Notice) (d : SendState) : SendState :=
  match p with
  | .station => d.queueNotice n
  | .signalling | .train => d.unsolicited p 0 0xF3 (.notice n 0)

/-- What the making of a notice reads: the clock, NOTICE_INTERVAL, and the Train Link state. -/
structure SendEnv where
  now : Millis
  interval : Millis
  trainUp : Bool

/-- A port may receive a class: its mask admits it and, on the Train Link, the link is UP (R158). -/
def SendState.mayReceive (e : SendEnv) (p : Port) (c : NoticeClass) (d : SendState) : Bool :=
  (d.port p).mask.has c && (p != .train || e.trainUp)

/-- A notice made for a port that may receive it (R160): a class that is not folded, or whose
interval is idle, is sent at once; otherwise it is folded. -/
def SendState.make (e : SendEnv) (p : Port) (x : NoticeDetail) (d : SendState) : SendState :=
  match (d.port p).folds.get x.cls with
  | none => d.emit p ⟨x.cls, 0, x⟩
  | some f =>
    match f.until_ with
    | none => (d.emit p ⟨x.cls, 0, x⟩).setPort p fun q =>
        { q with folds := q.folds.set x.cls ⟨some (e.now + e.interval), none, 0⟩ }
    | some t => d.setPort p fun q =>
        { q with folds := q.folds.set x.cls ⟨some t, some x, min 255 (f.count + 1)⟩ }

/-- A notice made for one port. -/
def SendState.noticeTo (e : SendEnv) (p : Port) (x : NoticeDetail) (d : SendState) : SendState :=
  if d.mayReceive e p x.cls then d.make e p x else d

/-- A notice made for each port whose mask admits its class (R158), the Signalling Link too for a SECURE
notice, which R117 sends to the other ports (DEDUCED, assumption 61). -/
def SendState.notice (e : SendEnv) (x : NoticeDetail) (d : SendState) : SendState :=
  ((d.noticeTo e .signalling x).noticeTo e .train x).noticeTo e .station x

/-- The evacuation notice: to the Train Link while up and to the Station Link whatever their masks,
to the Signalling Link by its mask (R119, R158). -/
def SendState.evacNotice (e : SendEnv) (x : NoticeDetail) (d : SendState) : SendState :=
  let d1 := d.noticeTo e .signalling x
  let d2 := if e.trainUp then d1.make e .train x else d1
  d2.make e .station x

/-- What the making of a notice reads of the state. -/
def State.env (s : State) : SendEnv := ⟨s.now, s.param .noticeInterval, s.link.trainUp⟩

/-- A notice made for each port (R158). -/
def State.notice (x : NoticeDetail) (s : State) : State := { s with send := s.send.notice s.env x }

/-- Notices made one after another. -/
def State.notices (xs : List NoticeDetail) (s : State) : State :=
  { s with send := xs.foldl (fun d x => d.notice s.env x) s.send }

/-- A notice for the Station Link alone (R95). -/
def State.stationNotice (x : NoticeDetail) (s : State) : State :=
  { s with send := s.send.noticeTo s.env .station x }

/-! ### Reports (R57, R65, R156) -/

/-- The platform status as it stands (R156). -/
def State.platformStatus (s : State) : PlatformStatus where
  mode := s.mode
  secure := s.secure.asserted
  reasons := s.secure.reasons
  phase := s.berth.phase
  permit := (s.berth.record.map (·.permit)).getD .notGranted
  lastBound := s.berth.lastBound
  queueLength := s.berth.queue.length
  syncLost := s.berth.syncLost
  opStatus := s.doors.operation.map (·.status)
  opKind := s.doors.operation.map (·.kind)
  opOrigin := s.doors.operation.map (·.origin)
  emergency := !s.noCause
  seconds := s.seconds

/-- A PLATFORM_STATUS is sent on the Signalling Link, whatever its mask and the watchdog (R156). -/
def State.sendStatus (s : State) : State :=
  { s with send := s.send.unsolicited .signalling 0 0xF0 (.platformStatus s.platformStatus) }

/-- The BERTH_REPORT as the alignment result stands (R57). -/
def State.berthReport (s : State) : BerthReport :=
  let a := (s.berth.record.map (·.align)).getD .clear
  { outcome := a.outcome, profile := a.on.map (·.1), orientation := a.on.map (·.2),
    d := a.d.map (·.1), source := a.d.map (·.2), reposition := a.reposition, inhibit := a.inhibit }

/-- A BERTH_REPORT is sent while the Train Link is up; it is not kept otherwise (R57). -/
def State.sendBerthReport (s : State) : State :=
  { s with send := if s.link.trainUp then
      s.send.unsolicited .train 0 0xF1 (.berthReport s.berthReport) else s.send }

/-- The outcome of a bay in an operation (R65). -/
def Operation.outcomeOf (o : Operation) (b : Nat) : Option BayOutcome :=
  (o.outcomes.find? fun x => x.1 == b).map (·.2)

/-- How many targets have an outcome (R65). -/
def Operation.countOf (o : Operation) (x : BayOutcome) : Nat :=
  (o.outcomes.filter fun y => y.2 == x).length

/-- What is told of an operation (R65, R158). -/
def Operation.summary (o : Operation) : OpSummary :=
  ⟨o.kind, o.origin, o.status, o.abort, o.countOf .reached, o.countOf .held, o.countOf .fault,
   o.countOf .dropped⟩

/-- The DOOR_REPORT as the operation record and the SERVED bays stand (R65). -/
def State.doorReport (s : State) : DoorReport where
  kind := s.doors.operation.map (·.kind)
  origin := s.doors.operation.map (·.origin)
  status := s.doors.operation.map (·.status)
  abort := s.doors.operation.bind (·.abort)
  bays := s.servedBays.map fun b =>
    ⟨b, (s.matchedDoor b).getD 0, (s.bay b).state, s.doors.operation.bind (·.outcomeOf b)⟩

/-- A DOOR_REPORT is sent while the Train Link is up (R65). -/
def State.sendDoorReport (s : State) : State :=
  { s with send := if s.link.trainUp then
      s.send.unsolicited .train 0 0xF2 (.doorReport s.doorReport) else s.send }

/-- A start, DONE or abort of the operation is reported in three ways (R65). -/
def State.reportOperation (s : State) : State :=
  match s.doors.operation with
  | none => s
  | some o => ((s.notice (.operationChange o.summary)).sendDoorReport).sendStatus

/-! ### The Alarm List (R164 to R168) -/

/-- The five kinds that name an event and are raised CLEARED (R165). -/
def AlarmKind.isEvent : AlarmKind → Bool
  | .queueGap | .unannouncedArrival | .isolationExpired | .authorityRefused | .restart => true
  | _ => false

/-- An unacknowledged entry of a kind and bay (R164). -/
def AlarmEntry.standsFor (e : AlarmEntry) (k : AlarmKind) (bay : Option Nat) : Bool :=
  !e.acked && decide (e.kind = k) && decide (e.bay = bay)

/-- A raise updates the unacknowledged entry of its kind and bay (R165). -/
def AlarmEntry.update (e : AlarmEntry) (detail : Option AlarmDetail) : AlarmEntry :=
  { e with count := min 255 (e.count + 1), detail := detail, active := !e.kind.isEvent }

/-- The list without its first entry that satisfies `p`. -/
def dropFirst (p : AlarmEntry → Bool) : List AlarmEntry → List AlarmEntry
  | [] => []
  | e :: es => if p e then es else e :: dropFirst p es

/-- The list with room for one entry, or `none` where every entry is ACTIVE (R167). -/
def makeRoom (es : List AlarmEntry) : Option (List AlarmEntry) :=
  if es.length < alarmLimit then some es
  else if es.any (fun e => e.acked && !e.active) then
    some (dropFirst (fun e => e.acked && !e.active) es)
  else if es.any (fun e => !e.active) then some (dropFirst (fun e => !e.active) es)
  else none

/-- A raise taken by the list (R165, R167): the list after it, and the entry made or updated. -/
def AlarmState.raise (k : AlarmKind) (bay : Option Nat) (detail : Option AlarmDetail)
    (now : Seconds) (a : AlarmState) : AlarmState × Option AlarmEntry :=
  match a.entries.find? (·.standsFor k bay) with
  | some e =>
    ({ a with entries := a.entries.map fun x =>
        if x.standsFor k bay then x.update detail else x }, some (e.update detail))
  | none =>
    match makeRoom a.entries with
    | some es =>
      let e : AlarmEntry := ⟨k, bay, detail, now, 1, !k.isEvent, false⟩
      ({ a with entries := es ++ [e] }, some e)
    | none => ({ a with overflow := true }, none)

/-- An ACTIVE entry of a kind and bay (R166). -/
def AlarmEntry.activeFor (e : AlarmEntry) (k : AlarmKind) (bay : Option Nat) : Bool :=
  e.active && decide (e.kind = k) && decide (e.bay = bay)

/-- The end of a condition marks its ACTIVE entries CLEARED (R166). -/
def AlarmState.clear (p : AlarmEntry → Bool) (a : AlarmState) : AlarmState :=
  { a with entries := a.entries.map fun e => if e.active && p e then { e with active := false } else e }

/-- How many entries are unacknowledged (R158, R168). -/
def AlarmState.unacknowledged (a : AlarmState) : Nat := (a.entries.filter fun e => !e.acked).length

/-- The ALARM notice of an entry (R158). -/
def AlarmState.noticeOf (a : AlarmState) (e : AlarmEntry) : NoticeDetail :=
  .alarm e.kind e.bay e.detail e.count e.active a.unacknowledged a.overflow

/-- An alarm is raised (R165); an entry made or updated sends an ALARM notice (R158). -/
def State.raise (k : AlarmKind) (bay : Option Nat) (detail : Option AlarmDetail) (s : State) :
    State :=
  let r := s.alarms.raise k bay detail s.seconds
  { s with
    alarms := r.1
    send := match r.2 with
      | some e => s.send.notice s.env (r.1.noticeOf e)
      | none => s.send }

/-- Every ACTIVE entry that satisfies `p` becomes CLEARED, each with its ALARM notice (R166), in list
order, oldest first (DESIGN CHOICE, assumption 62). -/
def State.clearWhere (p : AlarmEntry → Bool) (s : State) : State :=
  let a := s.alarms.clear p
  { s with
    alarms := a
    send := (s.alarms.entries.filter fun e => e.active && p e).foldl
      (fun d e => d.notice s.env (a.noticeOf { e with active := false })) s.send }

/-- The condition of an alarm kind and bay ends (R166). -/
def State.clear (k : AlarmKind) (bay : Option Nat) (s : State) : State :=
  s.clearWhere fun e => decide (e.kind = k) && decide (e.bay = bay)

/-- An alarm entry of a kind is ACTIVE. -/
def State.hasActive (s : State) (k : AlarmKind) (bay : Option Nat) : Bool :=
  s.alarms.entries.any (·.activeFor k bay)

/-! ### Phase and mode (R27, R156) -/

/-- The phase changes to `p`: PLATFORM_STATUS and a PHASE notice report it (R27). The DEPART_CLEAR
count of R40 and R41 starts with the phase where every beam already reads clear. -/
def State.setPhase (p : Phase) (s : State) : State :=
  if s.berth.phase = p then s
  else
    let counts := decide (p = .departing ∨ p = .occupiedUnknown) && s.beamsClear
    ({ s with berth := { s.berth with
        phase := p, clearFrom := if counts then some s.now else none } }.sendStatus).notice
      (.phase p)

/-- The mode changes to `m`: a PLATFORM_STATUS reports it (R156). -/
def State.setMode (m : Mode) (s : State) : State :=
  if s.mode = m then s else { s with mode := m }.sendStatus

/-- Intrusion is watched from now: every run counts from here (R106). -/
def State.startWatch (s : State) : State :=
  { s with
    sense := { s.sense with watchStart := some s.now }
    bays := s.bays.map fun y => { y with zoneConfirmed := false } }

/-- The phase leaves VACANT: an ACTIVE intrusion freezes and is raised again with the detail of the
last raise (R108), and the watch ends. -/
def State.leaveVacant (s : State) : State :=
  let s1 := { s with sense := { s.sense with
    watchStart := none
    intrusion := if s.sense.intrusion = .active then .frozen else s.sense.intrusion } }
  if s.sense.intrusion = .active then
    s1.raise .trackIntrusion none (s.sense.lastBay.map AlarmDetail.bay)
  else s1

/-- The phase becomes VACANT: the watch starts unless the intrusion is FROZEN (R106, R108). -/
def State.enterVacant (s : State) : State :=
  let s1 := s.setPhase .vacant
  if s1.sense.intrusion = .frozen then s1 else s1.startWatch

/-- Changes the berth record, where one exists. -/
def State.setRecord (f : Berth → Berth) (s : State) : State :=
  { s with berth := { s.berth with record := s.berth.record.map f } }

/-- Applies an operation to each bay of a list in turn. -/
def State.forBays (bs : List Nat) (f : Nat → State → State) (s : State) : State :=
  bs.foldl (fun s b => f b s) s

/-! ### The gap check (R101 to R105) -/

/-- The bays whose check is FAILED, each with its matched door (R103). -/
def State.failedGaps (s : State) : List (Nat × Option Nat) :=
  (s.tableBays.filter fun b => decide ((s.bay b).gap = .failed)).map fun b => (b, s.matchedDoor b)

/-- The gap notice caused by bay `b` (R103). -/
def State.gapNotice (b : Nat) (s : State) : State := s.notice (.gap b s.failedGaps)

/-- The check of bay `b` starts: PENDING from this moment (R101). -/
def State.startGap (b : Nat) (s : State) : State :=
  s.setBay b fun y => { y with gap := .pending, gapFrom := some s.now }

/-- The check of bay `b` is reset to NOT_REQUIRED; a FAILED one clears its alarm and sends the gap
notice (R104). -/
def State.resetGap (b : Nat) (s : State) : State :=
  let s1 := s.setBay b fun y => { y with gap := .notRequired, gapFrom := none }
  if (s.bay b).gap = .failed then (s1.clear .gapOccupied (some b)).gapNotice b else s1

/-- The effective presence of a bay (R98). -/
def State.effectivePresence (s : State) (b : Nat) : Bool := (s.bay b).presence && !(s.bay b).stuck

end Sys2Proof.Machine
end

