-- ==== Sys2Proof/Machine/DoorOps.lean ====
section
/-!
DEFINITION. The shared operations of the Door Sequencer (chapter 4): a bay entering a state with all
that follows from it, the operation record, and the start of an open or close operation.
-/
namespace Sys2Proof.Machine
open Sys2Proof

/-! ### Kinds of operation and of close -/

/-- OPEN and EVAC_OPEN are the open kinds; the other five are the close kinds (R64). -/
def OpKind.isOpen : OpKind → Bool
  | .openOp | .evacOpen => true
  | _ => false

/-- Doorway presence holds the close start (R69, R80, R81). -/
def CloseBy.honoursPresence : CloseBy → Bool
  | .operation .movementClose | .closeBay => false
  | _ => true

/-- The first speed of a close (R69, R80, R81). -/
def CloseBy.speed : CloseBy → Speed
  | .operation .movementClose | .closeBay => .nudge
  | _ => .normal

/-- The outcome a state gives a target of an operation (R65). -/
def OpKind.outcome (k : OpKind) : BayState → Option BayOutcome
  | .opened => if k.isOpen then some .reached else none
  | .locked => if k.isOpen then none else some .reached
  | .held _ => some .held
  | .fault _ => some .fault
  | .released => some .dropped
  | _ => none

/-- The states in which a timer runs from entry (R62). -/
def BayState.hasTimer : BayState → Bool
  | .opening | .closeWait | .closing _ | .reopening _ _ => true
  | _ => false

/-! ### Commissioning steps (R94, R95) -/

/-- The step that follows a position (R94). -/
def StepPosition.step : StepPosition → Step
  | .locked => .unlock | .unlocked => .opening | .opened => .closing | .closed => .locking

/-- The position after a step is complete (R94). -/
def Step.after : Step → StepPosition
  | .unlock => .unlocked | .opening => .opened | .closing => .closed | .locking => .locked

/-- The step in progress of bay `b` ends with a result, reported to the Station Link (R95). -/
def State.endStep (b : Nat) (x : StepResult) (s : State) : State :=
  match (s.bay b).step with
  | some ⟨pos, some (st, _), _⟩ =>
    (s.setBay b fun y => { y with
      step := some ⟨if x = .complete then st.after else pos, none, some x⟩ }).stationNotice
      (.stepEnd b st x)
  | _ => s

/-- A TEST bay stands locked (R94). -/
def Bay.standsLocked (y : Bay) : Bool :=
  match y.step with
  | some r => decide (r.position = .locked) && r.progress.isNone
  | none => false

/-! ### Pending isolation requests (R142, R146) -/

/-- The request of a bay, if one is pending. -/
def State.request (s : State) (b : Nat) : Option IsolationRequest :=
  s.doors.requests.find? fun q => q.bay == b

/-- The request of bay `b` leaves the pending list and the bay's field returns to NONE. -/
def State.dropRequest (b : Nat) (s : State) : State :=
  ({ s with doors := { s.doors with requests := s.doors.requests.filter fun q => q.bay != b } }).setBay
    b fun y => { y with isolation := .notIsolated }

/-! ### The operation record (R64 to R66) -/

/-- Replaces the operation record. -/
def State.setOperation (o : Option Operation) (s : State) : State :=
  { s with doors := { s.doors with operation := o } }

/-- The first OPEN of the berth is DONE: the open-complete time, and the dwell timer unless a close
or an EVAC_OPEN has cancelled it (R42). -/
def State.openComplete (s : State) : State :=
  s.setRecord fun r =>
    match r.openComplete with
    | some _ => r
    | none => { r with
        openComplete := some s.seconds
        dwellFrom := if r.dwell.isSome && !r.dwellOff then some s.now else none }

/-- The dwell timer is cancelled and not started again in the berth (R42). -/
def State.cancelDwell (s : State) : State :=
  s.setRecord fun r => { r with dwellFrom := none, dwellOff := true }

/-- A running dwell timer is cancelled and not started again in the berth; where none runs nothing changes,
so an OPEN that is DONE later may still start it (R38, R42). -/
def State.stopDwell (s : State) : State :=
  s.setRecord fun r => { r with dwellFrom := none, dwellOff := r.dwellOff || r.dwellFrom.isSome }

/-- Every target has an outcome: the operation is DONE and reported (R65); an open kind takes the
phase from OPENING to OPEN (R38), and an OPEN completes the opening of the berth (R42). -/
def State.operationDone (o : Operation) (s : State) : State :=
  let s1 := (s.setOperation (some { o with status := .done, finish := some s.seconds })).reportOperation
  let s2 := if o.kind.isOpen && decide (s1.berth.phase = .opening) then s1.setPhase .opened else s1
  if o.kind = .openOp then s2.openComplete else s2

/-- A bay that enters a state gives its operation that outcome, the first that befalls it (R65). -/
def State.giveOutcome (b : Nat) (st : BayState) (s : State) : State :=
  match s.busy with
  | none => s
  | some o =>
    if o.targets.contains b && (o.outcomeOf b).isNone then
      match o.kind.outcome st with
      | none => s
      | some x =>
        let o1 := { o with outcomes := o.outcomes ++ [(b, x)] }
        if o1.targets.all fun t => (o1.outcomeOf t).isSome then s.operationDone o1
        else s.setOperation (some o1)
    else s

/-- A BUSY operation is aborted and reported; its outcomes stand (R66). -/
def State.abortOperation (why : AbortReason) (s : State) : State :=
  match s.busy with
  | none => s
  | some o => (s.setOperation (some { o with
      status := .aborted, abort := some why, finish := some s.seconds })).reportOperation

/-! ### The bay map after the alignment (R59) -/

/-- The list with `n` in its ascending place, once. -/
def insertAscending (n : Nat) : List Nat → List Nat
  | [] => [n]
  | m :: ms => if n < m then n :: m :: ms else if n = m then m :: ms else m :: insertAscending n ms

/-- In ALIGNED or MISALIGNED a bay that enters ISOLATED, FAULT or RELEASED becomes UNAVAILABLE in the
map; a SERVED bay's door joins the inhibit list, a CONFLICT bay's alarm ends (R59). -/
def State.reclassify (b : Nat) (s : State) : State :=
  if s.berth.phase = .aligned ∨ s.berth.phase = .misaligned then
    match s.mapClass b with
    | none | some .unavailable => s
    | some c =>
      let s1 := s.setRecord fun r => { r with align := { r.align with
        map := r.align.map.map fun m => m.set (b - 1) .unavailable
        inhibit := match c with
          | .served door _ => insertAscending door r.align.inhibit
          | _ => r.align.inhibit } }
      let s2 := match c with
        | .conflict _ => s1.clear .bayConflict (some b)
        | _ => s1
      s2.sendBerthReport
  else s

/-! ### A bay enters a state (R62, with what each chapter makes follow) -/

/-- What the leaving of the state `old` for `st` brings: a gap check is reset (R104); OBSTRUCTION_HELD clears
(R75); the fault alarms clear (R76, R90, R91); a commissioning step in progress fails (R95); a
pending isolation request is lost when the bay leaves both LOCKED and FAULT, with ISOLATION_EXPIRED
unless the bay is released or isolated (R146, R120). Where leaving FAULT both ends its alarm and loses the
request, the alarm is cleared first and ISOLATION_EXPIRED raised after it, so that in a list full of ACTIVE
entries the raise finds room; R167 and R146 give no order (DESIGN CHOICE, assumption 72). -/
def State.leaveState (b : Nat) (old : Option BayState) (st : BayState) (s : State) : State :=
  let s1 := if old.any (· == .locked) && st != .locked then s.resetGap b else s
  let s2 := if old.any BayState.isHeld && !st.isHeld then s1.clear .obstructionHeld (some b) else s1
  let s3 := if old.any BayState.isFault && !st.isFault then
      ((s2.clear .openTimeout (some b)).clear .closeTimeout (some b)).clear .provingDiscrepant (some b)
    else s2
  let s4 := if st != .test then
      (s3.endStep b .failed).setBay b fun y => { y with step := none } else s3
  if (s.request b).isSome && st != .locked && !st.isFault then
    let s5 := s4.dropRequest b
    if st == .released || st == .isolated then s5
    else s5.raise .isolationExpired (some b) (some (.bayState st))
  else s4

/-- The fields of a bay record that a state entry sets: the state and its timer from this moment
(R62); the retry count 0 in LOCKED and ISOLATED (R72, R92, R93, R122, R144, R145, R148); CYCLED on
entering OPEN from OPENING (R82); the isolation field NONE and a fresh zone reading on leaving
ISOLATED (R97, R120, R148); the zone taken as clear in ISOLATED (R97); no recovery timer outside
FAULT (R92). -/
def Bay.enter (st : BayState) (now : Millis) (y : Bay) : Bay :=
  let wasIsolated := y.state == some .isolated && st != .isolated
  let silenced := st == .isolated && y.zone
  { y with
    state := some st
    timer := if st.hasTimer then some now else none
    retry := if st.isShut then 0 else y.retry
    cycled := y.cycled || (y.state == some .opening && st == .opened)
    isolation := if wasIsolated then .notIsolated else y.isolation
    zoneFresh := y.zoneFresh || wasIsolated
    zone := y.zone && !silenced
    zoneSince := if silenced then now else y.zoneSince
    zoneConfirmed := y.zoneConfirmed && !silenced
    recoveryFrom := if st.isFault then y.recoveryFrom else none }

/-- A bay reaching OPEN joins the bays-opened set of the berth (R26); under a BUSY EVAC_OPEN that
targets it, its evac-opened flag is set (R68, R124). -/
def State.noteOpened (b : Nat) (s : State) : State :=
  let s1 := s.setRecord fun r => { r with opened := insertAscending b r.opened }
  match s.busy with
  | some o =>
    if o.kind = .evacOpen ∧ b ∈ o.targets then s1.setBay b fun y => { y with evacOpened := true }
    else s1
  | none => s1

/-- What the new state of a bay tells the operation and the bay map (R65, R59). -/
def State.handOn (b : Nat) (st : BayState) (s : State) : State :=
  let s1 := s.giveOutcome b st
  if st.isUnavailable then s1.reclassify b else s1

/-- Bay `b` enters state `st`, with everything that follows from it. A release alone puts other effects
between the entry and what follows from it (`State.joinRelease`, R120). -/
def State.enterState (b : Nat) (st : BayState) (s : State) : State :=
  let s1 := (s.leaveState b (s.bay b).state st).setBay b (Bay.enter st s.now)
  let s2 := if st = .opened then s1.noteOpened b else s1
  s2.handOn b st

/-- A bay enters FAULT and its alarm is raised, after what the entry clears (DESIGN CHOICE, assumption 72). -/
def State.faultBay (b : Nat) (why : FaultReason) (k : AlarmKind) (d : Option AlarmDetail)
    (s : State) : State :=
  (s.enterState b (.fault why)).raise k (some b) d

/-! ### The close path (R71 to R74) -/

/-- A bay starts closing: it waits in CLOSE_WAIT for a presence that the close honours, and enters
CLOSING otherwise; with DOORWAY_HOLD 0 it passes through CLOSE_WAIT to NUDGE at once (R71). -/
def State.startClosing (b : Nat) (by_ : CloseBy) (s : State) : State :=
  if by_.honoursPresence && s.effectivePresence b then
    if s.bayIs b (· == .closeWait) then s
    else if s.param .doorwayHold = 0 then
      (s.enterState b .closeWait).enterState b (.closing .nudge)
    else s.enterState b .closeWait
  else s.enterState b (.closing by_.speed)

/-- A target bay is taken by a close: a bay in REOPENING stays there and keeps its count, a
MOVEMENT_CLOSE making it STANDING with its hold afresh; any other starts closing (R71, R74, R77). -/
def State.takeForClose (by_ : CloseBy) (b : Nat) (s : State) : State :=
  let s1 := s.setBay b fun y => { y with closeBy := some by_ }
  match (s.bay b).state with
  | some (.reopening m _) =>
    if by_ = .operation .movementClose ∧ m = .full then s1.enterState b (.reopening .standing true)
    else s1
  | _ => s1.startClosing b by_

/-- A close operation starts on its targets; with an empty target it is not started and the record
is unchanged (R69). A BUSY operation is superseded (R66) and the dwell timer cancelled (R42). -/
def State.startClose (k : OpKind) (origin : Origin) (targets : List Nat) (s : State) : State :=
  if targets.isEmpty then s
  else
    let s1 := s.abortOperation .superseded
    let s2 := (s1.setOperation (some ⟨k, origin, targets, .busy, none, [], s.seconds, none⟩)).cancelDwell
    (s2.forBays targets (State.takeForClose (.operation k))).reportOperation

/-- A close operation of any kind is BUSY. -/
def State.closeBusy (s : State) : Bool :=
  match s.busy with
  | some o => !o.kind.isOpen
  | none => false

/-- A close operation that starts in OPEN or OPENING makes the phase CLOSING (R38). -/
def State.phaseForClose (s : State) : State :=
  if s.berth.phase = .opened ∨ s.berth.phase = .opening then s.setPhase .closing else s

/-- The bays an ordinary CLOSE targets (R69). -/
def State.closeTargets (s : State) : List Nat :=
  s.tableBays.filter fun b => s.bayIs b BayState.isCloseTarget

/-- The bays a MOVEMENT_CLOSE targets (R69, R77). -/
def State.movementTargets (s : State) : List Nat :=
  s.tableBays.filter fun b => s.bayIs b BayState.isMovementTarget

/-! ### The open path (R67, R68, R124) -/

/-- The bays an open operation targets: SERVED and in a state that opens (R67, R124). -/
def State.openTargets (s : State) : List Nat :=
  s.servedBays.filter fun b => s.bayIs b BayState.isOpenTarget

/-- A target enters OPENING; one already OPENING is taken up as it stands (R68). An OPEN sets its
retry count to 0 (R67). -/
def State.takeForOpen (k : OpKind) (b : Nat) (s : State) : State :=
  let s1 := if k = .openOp then s.setBay b fun y => { y with retry := 0 } else s
  if s.bayIs b (· == .opening) then s1 else s1.enterState b .opening

/-- An open operation starts on its targets, and the phase becomes OPENING (R67, R124, R38). -/
def State.startOpen (k : OpKind) (origin : Origin) (targets : List Nat) (s : State) : State :=
  let s1 := s.abortOperation .superseded
  let s2 := s1.setOperation (some ⟨k, origin, targets, .busy, none, [], s.seconds, none⟩)
  let s3 := if k = .evacOpen then s2.cancelDwell else s2
  ((s3.forBays targets (State.takeForOpen k)).reportOperation).setPhase .opening

/-- EVAC_OPEN (R124): every SERVED closed bay; not started with an empty target. -/
def State.evacOpen (s : State) : State :=
  if s.openTargets.isEmpty then s else s.startOpen .evacOpen .part s.openTargets

/-! ### A bay proves locked, or is obstructed (R72, R73, R101) -/

/-- The locking of bay `b` starts a gap check: the bay is a target of the BUSY close that is taking
it, SERVED, and of gap class 1..3 (R101). -/
def State.gapCheckDue (s : State) (b : Nat) : Bool :=
  match s.busy with
  | some o => !o.kind.isOpen && o.targets.contains b &&
      decide ((s.bay b).closeBy = some (.operation o.kind)) && s.isServed b && decide (0 < s.gapClass b)
  | none => false

/-- A CLOSING bay proven locked enters LOCKED and may start a gap check (R72, R101). -/
def State.lockClosing (b : Nat) (s : State) : State :=
  let s1 := s.enterState b .locked
  if s.gapCheckDue b then s1.startGap b else s1

/-- A closing obstruction: OBSTRUCTED is set and the bay reopens, FULL where the map serves it in
OPENING, OPEN or CLOSING, STANDING otherwise (R73). -/
def State.obstructClosing (b : Nat) (s : State) : State :=
  let full := s.isServed b &&
    decide (s.berth.phase = .opening ∨ s.berth.phase = .opened ∨ s.berth.phase = .closing)
  (s.setBay b fun y => { y with obstructed := true }).enterState b
    (if full then .reopening .full false else .reopening .standing true)

/-- The close whose rules the bay recloses by (R74, R128); a bay that no close has taken would use
the ordinary rules. -/
def Bay.closeRule (y : Bay) : CloseBy := y.closeBy.getD (.operation .closeOp)

end Sys2Proof.Machine
end

