-- ==== Sys2Proof/Machine/BerthOps.lean ====
section
/-!
DEFINITION. The shared operations of the Berth Sequencer and the Alignment Unit (chapters 2 and 3):
an alignment made and handed on, a stop, movement by phase, the retirement of a berth, and an
arrival.
-/
namespace Sys2Proof.Machine
open Sys2Proof

/-! ### Identity -/

/-- The settled profile and orientation: both present and disputed no (R26). -/
def Berth.settled (r : Berth) : Option (Nat × Orientation) :=
  match r.disputed, r.profile, r.orientation with
  | false, some p, some o => some (p, o)
  | _, _, _ => none

/-- The settled profile and orientation of the berth. -/
def State.settled (s : State) : Option (Nat × Orientation) := s.berth.record.bind Berth.settled

/-- A berth record with no identity, no alignment and permit NONE (R29). -/
def Berth.blank : Berth where
  trainId := none
  identifiedId := none
  profile := none
  orientation := none
  service := none
  approachSeq := none
  announced := false
  identified := false
  confirmed := false
  disputed := false
  align := .clear
  permit := .notGranted
  dwell := none
  openComplete := none
  opened := []
  dwellFrom := none
  dwellOff := false

/-- The slot names a profile of the content in force that is not empty (R8, R20, R30, R31). -/
def State.profileKnown (s : State) (slot : Nat) : Bool := !(s.content.profile slot).isEmpty

/-- NORMAL, LOCAL or EMERGENCY: the modes in which the berth is worked. -/
def State.working (s : State) : Bool :=
  match s.mode with
  | .normal | .localMode | .emergency => true
  | .startup | .configFault | .commissioning => false

/-- The mode is STARTUP. -/
def State.inStartup (s : State) : Bool := decide (s.mode = .startup)

/-! ### An alignment (R47 to R57) -/

/-- The alarms that belong to an alignment: OFFSET_DISAGREE, BAY_CONFLICT and NO_MATCH (R50, R55,
R56). -/
def AlarmKind.ofAlignment : AlarmKind → Bool
  | .offsetDisagree | .bayConflict | .noMatch => true
  | _ => false

/-- The available bays of the content in force (R53). -/
def State.availableBays (s : State) : List Nat :=
  (upTo s.content.count).filter fun b => !s.bayIs b BayState.isUnavailable

/-- The alarms an alignment raises, in the order it works through its steps (R48, R50, R55, R56). -/
def alignmentAlarms (slot : Nat) (o : Orientation) (pattern : BitVec 16)
    (disagreement : Option (Mm × Mm × Mm)) (a : AlignResult) :
    List (AlarmKind × Option Nat × AlarmDetail) :=
  (if coherent pattern then [] else [(.beamIncoherent, none, .beams pattern)]) ++
  (match disagreement with
    | some (t, lo, hi) => [(.offsetDisagree, none, .disagreement t lo hi)]
    | none => []) ++
  (match a.map with
    | some m => (conflicts m).map fun x => (.bayConflict, some x.1, .doors x.2)
    | none => []) ++
  (match a.outcome, a.d with
    | .noMatch, some (d, _) => [(.noMatch, none, .noMatch slot o d)]
    | _, _ => [])

/-- The phase an outcome gives (R37). -/
def AlignOutcome.phase : AlignOutcome → Phase
  | .aligned => .aligned
  | _ => .misaligned

/-- An alignment is made from what stands at this moment, its result replaces the one before it, and
is handed on: to the phase, to the train, and to a deferred evacuation opening (R47, R37, R57,
R125). It ends a pending stop (R32). The alarms of the alignment before it end first (DESIGN CHOICE, assumption
72). -/
def State.align (slot : Nat) (o : Orientation) (s : State) : State :=
  let pattern := s.lines.beams
  let fix := fuse s.content pattern s.berth.heldOffset
  let a : AlignResult := alignment s.content s.availableBays slot o pattern s.berth.heldOffset
  let s1 := (s.clearWhere fun e => e.kind.ofAlignment).setRecord fun r => { r with align := a }
  let s2 := { s1 with berth := { s1.berth with pendingStop := false } }
  let s3 := (alignmentAlarms slot o pattern fix.disagreement a).foldl
    (fun (t : State) x => t.raise x.1 x.2.1 (some x.2.2)) s2
  let s4 : State := (s3.setPhase a.outcome.phase).sendBerthReport
  if a.outcome = .aligned ∧ s4.emer.evacuation then s4.evacOpen else s4

/-- A stop is taken: in ARRIVING or OCCUPIED_UNKNOWN, in NORMAL, LOCAL or EMERGENCY, it aligns a
settled berth and is held pending otherwise (R46, R32). -/
def State.takeStop (s : State) : State :=
  if s.working && decide (s.berth.phase = .arriving ∨ s.berth.phase = .occupiedUnknown) then
    match s.settled with
    | some (slot, o) => s.align slot o
    | none => { s with berth := { s.berth with pendingStop := true } }
  else s

/-- The identity has become settled: a stop held pending is aligned at once (R32). -/
def State.settlePending (s : State) : State :=
  if s.berth.pendingStop then
    match s.settled with
    | some (slot, o) => s.align slot o
    | none => s
  else s

/-! ### Movement (R37 to R39, R77) -/

/-- The alignment fields are cleared with the alarms that belong to them (R37, R50, R55, R56). -/
def State.clearAlignment (s : State) : State :=
  (s.setRecord fun r => { r with align := .clear }).clearWhere fun e => e.kind.ofAlignment

/-- Movement clears the alignment and returns the phase to ARRIVING, with a BERTH_REPORT of outcome
NONE; with beam 0 already clear the phase goes on to DEPARTING (R37, R39, R57). -/
def State.backToArriving (s : State) : State :=
  let s1 := (s.clearAlignment.setPhase .arriving).sendBerthReport
  if s1.beam0 then s1 else s1.setPhase .departing

/-- Unexpected movement: the alarm, the abort, the end of a running dwell timer whether or not a close
starts (R38), MOVEMENT_CLOSE, and the return to ARRIVING (R77). -/
def State.unexpectedMovement (s : State) : State :=
  let s1 := ((s.raise .unexpectedMovement none none).abortOperation .movement).stopDwell
  (s1.startClose .movementClose .part s1.movementTargets).backToArriving

/-- What movement, a Train Link MOVING or a change of the beam pattern, does by phase (R37, R77,
R39). -/
def State.movement (s : State) : State :=
  match s.berth.phase with
  | .aligned | .misaligned => s.backToArriving
  | .opening | .opened | .closing | .closedProving => s.unexpectedMovement
  | .secureBerthed => s.setPhase .departing
  | .vacant | .occupiedUnknown | .arriving | .departing => s

/-- Movement ends what rests on the train standing: the held offset, a pending stop, and the
stability count, which starts anew while a beam reads blocked (R44, R32, R45). -/
def State.noteMovement (s : State) : State :=
  { s with berth := { s.berth with
    heldOffset := none
    pendingStop := false
    stableFrom := if s.beamsClear then none else some s.now
    stopTaken := false } }

/-! ### Retirement (R40, R41) -/

/-- The last berth summary a record leaves (R40). -/
def Berth.summary (r : Berth) : Summary :=
  ⟨r.trainId, r.approachSeq, r.align.d.map (·.1), r.align.outcome, r.opened.length⟩

/-- The alarms that end with the berth (R40, R50, R55, R56, R141). -/
def AlarmKind.ofBerth : AlarmKind → Bool
  | .identityMismatch | .trainLinkLost => true
  | k => k.ofAlignment

/-- The berth retires: its summary replaces the last one, the record is discarded with its pending
stop, the held offset becomes absent, its alarms end, and every gap check is reset (R40, R44, R104,
R141). Without a record the summary is left as it was (R41). The checks are reset one bay after another in
ascending bay number, and the GAP notice of a FAILED bay names the bays still FAILED after it; R104 gives no
order (DESIGN CHOICE, assumption 60). -/
def State.retire (s : State) : State :=
  let s1 := s.clearWhere fun e => e.kind.ofBerth
  let s2 := s1.forBays s1.tableBays State.resetGap
  { s2 with berth := { s2.berth with
    summary := match s2.berth.record with
      | some r => some r.summary
      | none => s2.berth.summary
    record := none
    heldOffset := none
    pendingStop := false } }

/-! ### Arrival (R28, R29) -/

/-- The berth record made of an approach record (R28); its permit by R34. -/
def Approach.berth (a : Approach) (m : Mode) : Berth :=
  { Berth.blank with
    trainId := some a.trainId, profile := some a.profile, orientation := some a.orientation
    service := some a.service, approachSeq := some a.seq, dwell := a.dwell, announced := true
    permit := if a.service = .stopping ∧ m = .normal then .bySignalling else .notGranted }

/-- Beam 0 becomes blocked in VACANT: the head of the queue is bound, or the arrival is unannounced
(R28, R29). Outside NORMAL, LOCAL and EMERGENCY the phase becomes OCCUPIED_UNKNOWN (R29). Where the arrival
freezes an ACTIVE intrusion, the raise of TRACK_INTRUSION is taken before that of UNANNOUNCED_ARRIVAL (R165
lets either be first; DESIGN CHOICE, assumption 70). -/
def State.arrive (s : State) : State :=
  let s1 := s.leaveVacant
  if s1.working then
    match s1.berth.queue with
    | a :: rest =>
      ({ s1 with berth := { s1.berth with
        queue := rest, record := some (a.berth s1.mode), lastBound := some a.seq
        pendingStop := false } }.sendStatus).setPhase .arriving
    | [] =>
      ({ s1 with berth := { s1.berth with
        record := some .blank, pendingStop := false } }.setPhase .arriving).raise
        .unannouncedArrival none none
  else (s1.setPhase .occupiedUnknown).raise .unannouncedArrival none none

end Sys2Proof.Machine
end

