-- ==== Sys2Proof/Machine/Flags.lean ====
section
/-!
DEFINITION. What is formed afresh from the state whenever something in it has changed: the end of
the UNEXPECTED_MOVEMENT condition (R77), the phases that wait on the bays and gap checks (R38), and
the judgement of platform secure with its outputs (chapter 7). `State.finish` does the three in this
order at the end of every command (DESIGN CHOICE, assumption 6).
-/
namespace Sys2Proof.Machine
open Sys2Proof

/-! ### Platform secure (R111 to R117) -/

/-- No reason is withheld. -/
def Reasons.isEmpty (r : Reasons) : Bool :=
  !r.mode && !r.bayNotLocked && !r.gapCheck && !r.intrusion && !r.emergency && !r.outputFault

/-- A check that is PENDING or FAILED (R38, R105, R112). -/
def GapStatus.isOpen : GapStatus → Bool
  | .pending | .failed => true
  | .notRequired | .passed => false

/-- Some bay of the table is in a state other than LOCKED or ISOLATED (R112). -/
def State.someBayNotLocked (s : State) : Bool := s.tableBays.any fun b => !s.bayIs b BayState.isShut

/-- Some bay's gap check is PENDING or FAILED (R112). -/
def State.someGapOpen (s : State) : Bool := s.tableBays.any fun b => (s.bay b).gap.isOpen

/-- The output fault latch is set (R116). -/
def SecureState.latched (x : SecureState) : Bool := x.latchA || x.latchB

/-- The withheld-reason set the state gives (R112). In STARTUP only MODE and OUTPUT_FAULT are judged
(R113). -/
def State.judge (s : State) : Reasons :=
  match s.mode with
  | .startup => { Reasons.modeOnly with outputFault := s.secure.latched }
  | .normal | .localMode | .configFault | .commissioning | .emergency =>
    { mode := decide (s.mode ≠ .normal ∧ s.mode ≠ .localMode)
      bayNotLocked := s.someBayNotLocked
      gapCheck := s.someGapOpen
      intrusion := decide (s.sense.intrusion ≠ .clear)
      emergency := !s.noCause
      outputFault := s.secure.latched }

/-- The disagreement timer of a channel: it runs, from its original start, while the readback differs
from the drive (R115). -/
def disagreement (drive readback : Bool) (timer : Option Millis) (now : Millis) : Option Millis :=
  if drive = readback then none else some (timer.getD now)

/-- The secure state with reason set `r`: asserted, and both drives energised, while it is empty
(R112, R114); the disagreement timers follow the drives and readbacks (R115). -/
def SecureState.form (x : SecureState) (r : Reasons) (l : Lines) (now : Millis) : SecureState :=
  { x with
    asserted := r.isEmpty
    reasons := r
    changed := if r = x.reasons then x.changed else now / 1000
    driveA := r.isEmpty
    driveB := r.isEmpty
    disagreeA := disagreement r.isEmpty l.readbackA x.disagreeA now
    disagreeB := disagreement r.isEmpty l.readbackB x.disagreeB now }

/-- The reason set is formed afresh; a change of it is kept, timed and reported (R113, R117): by a
PLATFORM_STATUS, and by a SECURE notice to every port whose mask admits it, the Signalling Link among
them (R158; DEDUCED, assumption 61). -/
def State.settleSecure (s : State) : State :=
  let s1 := { s with secure := s.secure.form s.judge s.lines s.now }
  if s1.secure.reasons = s.secure.reasons then s1
  else s1.sendStatus.notice (.secure s1.secure.asserted s1.secure.reasons s1.secure.changed)

/-! ### The phases that wait on the bays (R38) -/

/-- Every SERVED bay is LOCKED or ISOLATED. -/
def State.servedShut (s : State) : Bool := s.servedBays.all fun b => s.bayIs b BayState.isShut

/-- The phase as the bays and gap checks make it (R38): in OPENING, OPEN or CLOSING with no operation
BUSY, all served bays shut give CLOSED_PROVING or SECURE_BERTHED; CLOSED_PROVING falls back to CLOSING
when a served bay is not shut, and goes on when no check is PENDING or FAILED. The bays are judged as they
stand, so an operation that ends with all of them already shut moves the phase (DESIGN CHOICE,
assumption 66). -/
def State.settledPhase (s : State) : Phase :=
  match s.berth.phase with
  | .opening | .opened | .closing =>
    if s.busy.isNone && s.servedShut then
      (if s.someGapOpen then .closedProving else .secureBerthed)
    else s.berth.phase
  | .closedProving =>
    if !s.servedShut then .closing else if s.someGapOpen then .closedProving else .secureBerthed
  | .vacant | .occupiedUnknown | .arriving | .aligned | .misaligned | .secureBerthed
  | .departing => s.berth.phase

/-- The phase moves as the bays and gap checks stand (R38). -/
def State.settlePhase (s : State) : State := s.setPhase s.settledPhase

/-! ### The end of an unexpected movement (R77) -/

/-- OPENING, OPEN, CLOSE_WAIT, CLOSING, REOPENING or HELD: what keeps UNEXPECTED_MOVEMENT (R77). -/
def BayState.keepsMovementAlarm (x : BayState) : Bool := x.isActive || x.isHeld

/-- UNEXPECTED_MOVEMENT is ACTIVE though no bay remains in those states. -/
def State.movementOver (s : State) : Bool :=
  s.hasActive .unexpectedMovement none &&
    !(s.tableBays.any fun b => s.bayIs b BayState.keepsMovementAlarm)

/-- UNEXPECTED_MOVEMENT becomes CLEARED when no bay remains in those states. -/
def State.settleMovement (s : State) : State :=
  if s.movementOver then s.clear .unexpectedMovement none else s

/-- What follows from the state once the command has been applied. -/
def State.finish (s : State) : State := s.settleMovement.settlePhase.settleSecure

/-- The frames sent by earlier steps are gone. -/
def State.begin_ (s : State) : State := { s with send := { s.send with sent := [] } }

/-- An event of a powered part: its effect, then what follows from it. Without supply nothing is
taken. -/
def State.event (f : State → State) (s : State) : State :=
  if s.powered then (f s.begin_).finish else s

end Sys2Proof.Machine
end

