-- ==== Sys2Proof/Machine/EmergencyOps.lean ====
section
/-!
DEFINITION. The shared operations of the Emergency Monitor (chapter 8): a cause joins or leaves the
set, the platform enters EMERGENCY, and REARM returns it.
-/
namespace Sys2Proof.Machine
open Sys2Proof

/-! ### Entering EMERGENCY (R126, R127) -/

/-- The bays that are LOCKED now. -/
def State.lockedBays (s : State) : List Nat := s.tableBays.filter fun b => s.bayIs b (· == .locked)

/-- The suspended context as the state stands (R127). -/
def State.suspend (s : State) : Context :=
  ⟨s.mode, s.berth.phase, s.doors.operation, s.lockedBays, s.seconds⟩

/-- The platform enters EMERGENCY from NORMAL, LOCAL or COMMISSIONING: the context is saved, the mode
set, the entry told, and the BUSY operation aborted (R126, R119). -/
def State.enterEmergency (s : State) : State :=
  match s.mode with
  | .normal | .localMode | .commissioning =>
    let s1 := { s with emer := { s.emer with context := some s.suspend } }.setMode .emergency
    (s1.notice (.emergency .entered s1.causes s1.mode)).abortOperation .emergency
  | .startup | .configFault | .emergency => s

/-- The emergency flag has changed: a PLATFORM_STATUS reports it (R156). -/
def State.flagStatus (changed : Bool) (s : State) : State := if changed then s.sendStatus else s

/-! ### A bay is released (R120) -/

/-- The set of released bays with one more, in ascending order. -/
def insertRelease (b : Nat) (c : ReleaseContact) :
    List (Nat × ReleaseContact) → List (Nat × ReleaseContact)
  | [] => [(b, c)]
  | x :: xs => if b < x.1 then (b, c) :: x :: xs else if b = x.1 then (b, c) :: xs
      else x :: insertRelease b c xs

/-- Bay `b` enters RELEASED, its number joins the cause set, BAY_RELEASED is raised and the notice sent;
then the change is handed on, in the order of the table of R120: the outcome, the bay map, and what the
leaving of the old state brings (R119, R120). -/
def State.joinRelease (b : Nat) (c : ReleaseContact) (s : State) : State :=
  let s1 := s.setBay b (Bay.enter .released s.now)
  let s2 := ({ s1 with emer := { s1.emer with released := insertRelease b c s1.emer.released } }.raise
    .bayReleased (some b) (some (.contact c))).flagStatus s.noCause
  let s3 := s2.notice (.emergency (.joinedBay b) s2.causes s2.mode)
  (s3.handOn b .released).leaveState b (s.bay b).state .released

/-- Bay `b` is released; where the set was empty the platform enters EMERGENCY, from the state as the
release and its effect on the phase have left it (R120, R126, R38). -/
def State.releaseBay (b : Nat) (c : ReleaseContact) (s : State) : State :=
  let s1 := s.joinRelease b c
  if s.noCause then s1.settlePhase.enterEmergency else s1

/-- A restored bay: LOCKED, out of the cause set, with its alarm and notice (R122). -/
def State.restore (b : Nat) (s : State) : State :=
  let s1 := s.enterState b .locked
  let s2 := { s1 with emer := { s1.emer with
    released := s1.emer.released.filter fun x => x.1 != b } }.clear .bayReleased (some b)
  let s3 := s2.flagStatus s2.noCause
  s3.notice (.emergency (.leftBay b) s3.causes s3.mode)

/-! ### The evacuation line (R123) -/

/-- The phases in which the assertion opens the served bays at once (R123). -/
def Phase.evacOpens : Phase → Bool
  | .aligned | .opening | .opened | .closing | .closedProving | .secureBerthed => true
  | .vacant | .occupiedUnknown | .arriving | .misaligned | .departing => false

/-- EVACUATION joins the cause set, with its alarm (R119, R123). -/
def State.joinEvacuation (s : State) : State :=
  ({ s with emer := { s.emer with evacuation := true } }.raise .evacuation none none).flagStatus
    s.noCause

/-- The evacuation notice (R119). -/
def State.evacuationNotice (s : State) : State :=
  { s with send := s.send.evacNotice s.env (.emergency .joinedEvacuation s.causes s.mode) }

/-- The EVAC line becomes asserted outside STARTUP: EVACUATION joins, the platform enters EMERGENCY
where the set was empty, and EVAC_OPEN starts where the phase allows (R123, R126). In CONFIG_FAULT no
bay is opened. -/
def State.evacuate (s : State) : State :=
  let s1 := s.joinEvacuation.evacuationNotice
  let s2 := if s.noCause then s1.enterEmergency else s1
  if s2.mode = .emergency ∧ s2.berth.phase.evacOpens then s2.evacOpen else s2

/-- The EVAC line is released: EVACUATION leaves the set, with its alarm and notice; no bay changes
(R119, R123). -/
def State.endEvacuation (s : State) : State :=
  let s1 := { s with emer := { s.emer with evacuation := false } }.clear .evacuation none
  let s2 := s1.flagStatus s1.noCause
  s2.notice (.emergency .leftEvacuation s2.causes s2.mode)

/-! ### REARM (R130 to R133) -/

/-- The mode REARM returns to (R130). -/
def State.rearmMode (s : State) : Mode :=
  match s.emer.context with
  | none => .localMode
  | some c =>
    match c.savedMode with
    | .commissioning => .commissioning
    | .normal => if s.link.watchdog.isSome then .normal else .localMode
    | _ => .localMode

/-- The bays REARM_CLOSE targets (R131). -/
def State.rearmTargets (s : State) : List Nat :=
  s.tableBays.filter fun b =>
    (((s.emer.context.map (·.lockedAtEntry)).getD []).contains b || (s.bay b).evacOpened) &&
      s.bayIs b BayState.isCloseTarget

/-- A stopped train is berthed with a bay map (R132). -/
def Phase.isBerthed : Phase → Bool
  | .opening | .opened | .closing | .closedProving | .secureBerthed => true
  | .vacant | .occupiedUnknown | .arriving | .aligned | .misaligned | .departing => false

/-- The SERVED bays whose gap check REARM starts (R132). -/
def State.rearmGaps (s : State) : List Nat :=
  s.servedBays.filter fun b => s.bayIs b (· == .locked) && decide (0 < s.gapClass b) &&
    decide ((s.bay b).gap = .notRequired)

/-- The phase derived from the bays (R132); `closing` tells that a REARM_CLOSE was started. -/
def State.derivedPhase (closing : Bool) (s : State) : Phase :=
  if closing then .closing
  else if s.servedBays.any fun b => s.bayIs b fun x => x == .opened || x == .opening then .opened
  else if s.servedBays.any fun b => !s.bayIs b BayState.isShut then .closing
  else if s.tableBays.any fun b => decide ((s.bay b).gap = .pending ∨ (s.bay b).gap = .failed) then
    .closedProving
  else .secureBerthed

/-- Gap checks are started and the phase is derived afresh, where a train is berthed (R132). -/
def State.rederive (closing : Bool) (s : State) : State :=
  if s.berth.phase.isBerthed then
    let s1 := s.forBays s.rearmGaps State.startGap
    s1.setPhase (s1.derivedPhase closing)
  else s

/-- REARM that has passed its checks: the mode returns, REARM_CLOSE starts, the phase is derived
afresh, the evac-opened flags and the context are cleared, and the return is told (R130 to R133). -/
def State.rearm (s : State) : State :=
  let targets := s.rearmTargets
  let s1 := (s.setMode s.rearmMode).startClose .rearmClose .supervisor targets
  let s2 := (s1.rederive !targets.isEmpty).mapBays fun y => { y with evacOpened := false }
  let s3 := { s2 with emer := { s2.emer with context := none } }
  s3.notice (.emergencyReturn s3.causes s3.mode (s.emer.context.map (·.savedPhase))
    (s.emer.context.bind (·.operation)) s3.berth.phase)

end Sys2Proof.Machine
end

