-- ==== Sys2Proof/Machine/BusOps.lean ====
section
/-!
DEFINITION. The shared operations of the Door Bus Master and the Sensing Unit (chapters 5 and 6): the
command of a poll, the proving class, what one good reply does field by field in the order of R87,
and the loss of a node.
-/
namespace Sys2Proof
open Sys2Proof.Machine

/-! ### What a reply shows (R89, R119, R120) -/

/-- The proving code of a reply (R89). -/
def NodeReply.code (r : NodeReply) : Nat :=
  r.lc.toNat * 8 + r.rc.toNat * 4 + r.lk1.toNat * 2 + r.lk2.toNat

/-- The proving class of a reply (R89). -/
def NodeReply.cls (r : NodeReply) : ProvingClass :=
  if r.lk1 = r.lk2 then
    if r.lc && r.rc then (if r.lk1 then .provenLocked else .closedUnlocked)
    else if r.lk1 then .impossible else .notClosed
  else .lockDiscrepant

/-- A release contact is active (R120). -/
def NodeReply.releases (r : NodeReply) : Bool := r.rh || r.pk

/-- The contact or contacts that release a bay (R119). -/
def NodeReply.contact (r : NodeReply) : ReleaseContact :=
  if r.rh then (if r.pk then .both else .rh) else .pk

end Sys2Proof

namespace Sys2Proof.Machine
open Sys2Proof

/-! ### The command of a poll (R62, R63, R84) -/

/-- The command R62 gives for a bay: that of its state, HOLD until a load has set one. -/
def Bay.command (y : Bay) : BusCommand :=
  match y.state with
  | none => .hold
  | some st =>
    match st with
    | .opening | .opened | .reopening .full _ => .opening
    | .closing .normal => .closeNormal
    | .closing .nudge => .closeNudge
    | .released => .free
    | .test =>
      match y.step with
      | some ⟨_, some (x, _), _⟩ => .step x
      | _ => .hold
    | .locked | .closeWait | .reopening .standing _ | .held _ | .fault _ | .isolated => .hold

/-- The command bay `b` is polled with: HOLD throughout STARTUP (R84). -/
def State.commandOf (b : Nat) (s : State) : BusCommand :=
  if s.mode = .startup then .hold else (s.bay b).command

/-- Bay `b` is polled: its slot begins, and the next poll goes to the next bay (R84). -/
def State.pollBay (s : State) : State :=
  let b := s.bus.nextBay
  { s with bus := { s.bus with
    last := some ⟨b, s.commandOf b, (s.bay b).lastEvent⟩
    awaiting := some b
    nextPollAt := s.now + pollSlotMs
    nextBay := if b < s.bus.pollCount then b + 1 else 1 } }

/-! ### Proving and its timers (R89 to R93) -/

/-- LOCK_DISCREPANT or IMPOSSIBLE (R90). -/
def ProvingClass.isDiscrepant : ProvingClass → Bool
  | .lockDiscrepant | .impossible => true
  | _ => false

/-- The proving code of the last good reply (R89, R90). -/
def Bay.code (y : Bay) : Nat := (y.lastReply.map fun x => x.1.code).getD 0

/-- The recovery timer runs: FAULT, node LIVE, PROVEN_LOCKED and ISO normal (R92). -/
def recovering (st : Option BayState) (r : NodeReply) : Bool :=
  (match st with | some x => x.isFault | none => false) && decide (r.cls = .provenLocked) && !r.iso

/-- A timer that runs from the first moment its condition holds and stops when it does not. -/
def runWhile (cond : Bool) (timer : Option Millis) (now : Millis) : Option Millis :=
  if cond then some (timer.getD now) else none

/-- The first good reply of a bay in FAULT(NODE_LOST) whose node was LOST (R93). -/
def Bay.returning (y : Bay) : Bool := y.lost && decide (y.state = some (.fault .nodeLost))

/-- The bay record after a good reply has been kept, before any field acts on the bay's state (R87):
missed count, last reply, class, node health and the two timers. At the first reply of a returning
node the timers wait for the following replies (R93). -/
def Bay.keepReply (r : NodeReply) (inStartup : Bool) (now : Millis) (y : Bay) : Bay :=
  { y with
    missed := 0
    lost := false
    lastReply := some (r, now / 1000)
    cls := r.cls
    discrepancyFrom := if y.returning then none else runWhile r.cls.isDiscrepant y.discrepancyFrom now
    discrepancyTaken := y.discrepancyTaken && r.cls.isDiscrepant
    recoveryFrom := if y.returning then none else runWhile (recovering y.state r) y.recoveryFrom now
    recon := if inStartup && y.recon.isNone then some (.reply r r.cls) else y.recon }

/-- A good reply of bay `b` is kept; a node that was LOST returns, and NODE_LOST ends (R87, R93). -/
def State.keepReply (r : NodeReply) (s : State) : State :=
  let s1 := { s with bus := { s.bus with awaiting := none } }.setBay r.bay
    (Bay.keepReply r s.inStartup s.now)
  if (s.bay r.bay).lost then s1.clear .nodeLost (some r.bay) else s1

/-! ### The fields of a good reply, in the order of R87 -/

/-- First the release contacts (R120): from the end of STARTUP onward a bay that is not already
RELEASED is released. -/
def State.applyRelease (r : NodeReply) (s : State) : State :=
  if r.releases && !s.inStartup && !s.bayIs r.bay (· == .released) then
    s.releaseBay r.bay r.contact
  else s

/-- A step in progress is completed by this class (R94). -/
def stepProven (st : Step) (r : NodeReply) : Bool :=
  match st with
  | .unlock => decide (r.cls = .closedUnlocked)
  | .opening => false
  | .closing => decide (r.cls = .closedUnlocked) && decide (r.leaf = 0)
  | .locking => decide (r.cls = .provenLocked)

/-- The step in progress of a bay. -/
def Bay.progress (y : Bay) : Option Step :=
  match y.step with
  | some ⟨_, some (st, _), _⟩ => some st
  | _ => none

/-- A good reply of a class that is not discrepant ends PROVING_DISCREPANT of a bay that is not in FAULT:
by R90 one that is RELEASED or ISOLATED, and as for these one whose alarm was raised while it had no
state (DESIGN CHOICE, assumption 19). In FAULT the alarm ends when the bay leaves FAULT (R90). -/
def State.endDiscrepancy (r : NodeReply) (s : State) : State :=
  if r.cls.isDiscrepant || s.bayIs r.bay BayState.isFault then s
  else s.clear .provingDiscrepant (some r.bay)

/-- Then the proving class (R89 to R94), to the state the release left. `returned` tells that this is
the first reply of a LOST node. -/
def State.applyProving (r : NodeReply) (returned : Bool) (s : State) : State :=
  match (s.bay r.bay).state with
  | some .locked =>
    if r.cls = .provenLocked then s
    else s.faultBay r.bay .unexpectedOpen .provingDiscrepant (some (.unexpectedOpen r.code))
  | some (.closing _) => if r.cls = .provenLocked then s.lockClosing r.bay else s
  | some (.fault .nodeLost) =>
    if returned && decide (r.cls = .provenLocked) && !r.iso then s.enterState r.bay .locked else s
  | some .test =>
    match (s.bay r.bay).progress with
    | some st => if stepProven st r then s.endStep r.bay .complete else s
    | none => s
  | some .opening | some .opened | some .closeWait | some (.reopening _ _) | some (.held _)
  | some (.fault _) | some .released | some .isolated | none => s

/-- A motion event is accepted when its number differs from the last one accepted (R86). -/
def Bay.accepts (r : NodeReply) (y : Bay) : Bool :=
  decide (r.event ≠ .noEvent) && decide (y.lastEvent ≠ some r.eventNo)

/-- What an accepted motion event does to the bay (R68, R73, R83, R94, R95). OBSTRUCTED_OPENING ends a
REOPENING (FULL) at any moment of it, REOPEN_HOLD included (R73). -/
def State.takeEvent (b : Nat) (e : MotionEvent) (s : State) : State :=
  match (s.bay b).state, e with
  | some .opening, .reachedOpen => s.enterState b .opened
  | some .opening, .obstructedOpening | some (.reopening .full _), .obstructedOpening =>
    (s.setBay b fun y => { y with obstructed := true }).enterState b (.held .openingBlocked)
  | some (.reopening .full false), .reachedOpen => s.enterState b (.reopening .full true)
  | some (.closing _), .obstructedClosing => s.obstructClosing b
  | some .test, .reachedOpen =>
    if (s.bay b).progress = some .opening then s.endStep b .complete else s
  | some .test, .obstructedOpening =>
    if (s.bay b).progress = some .unlock ∨ (s.bay b).progress = some .opening then
      s.endStep b .failed else s
  | some .test, .obstructedClosing =>
    if (s.bay b).progress = some .closing ∨ (s.bay b).progress = some .locking then
      s.endStep b .failed else s
  | _, _ => s

/-- Then the motion event (R86). -/
def State.applyMotion (r : NodeReply) (s : State) : State :=
  if (s.bay r.bay).accepts r then
    (s.setBay r.bay fun y => { y with lastEvent := some r.eventNo }).takeEvent r.bay r.event
  else s

/-- Bay `b` is isolated in a manner: its request leaves the list, it enters ISOLATED, and a notice
tells the bay and the manner (R144, R145, R147). -/
def State.isolate (b : Nat) (manner : Isolation) (s : State) : State :=
  let s1 := (s.dropRequest b).enterState b .isolated
  (s1.setBay b fun y => { y with isolation := manner }).notice (.isolated b manner)

/-- Then the ISO contact: a pending request of a LOCKED or FAULT bay becomes effective (R144). -/
def State.applyIso (r : NodeReply) (s : State) : State :=
  if r.iso && decide (r.cls = .provenLocked) && (s.request r.bay).isSome &&
      s.bayIs r.bay (fun x => x == .locked || x.isFault) then
    s.isolate r.bay .byContact
  else s

/-- The presence reading of a good reply; a clear one ends a stuck sensor (R97, R99). -/
def Bay.takePresence (p : Bool) (now : Millis) (y : Bay) : Bay :=
  { y with
    presence := p
    presenceSince := if y.presence = p then y.presenceSince else now
    stuck := y.stuck && p }

/-- The zone reading of a good reply, or the fresh one after an isolation (R97). -/
def Bay.takeZone (z : Bool) (now : Millis) (y : Bay) : Bay :=
  if y.zone = z ∧ y.zoneFresh = false then y
  else { y with zone := z, zoneSince := now, zoneFresh := false, zoneConfirmed := false }

/-- The zone of bay `b` as the unit takes a reported one: clear for gap class 0 and for an ISOLATED bay
(R97). -/
def State.zoneTaken (s : State) (b : Nat) (reported : Bool) : Bool :=
  reported && decide (s.gapClass b ≠ 0) && !s.bayIs b (· == .isolated)

/-- Last the presence and gap-zone fields (R97): a clear doorway ends PRESENCE_STUCK and takes a bay
in CLOSE_WAIT to CLOSING (NORMAL) (R98, R99). Where this reply's release contact has just ended an isolation
(R147), the zone is taken afresh from its own gap field, which R87 applies last: this reply counts as the
next good reply of R97 (DESIGN CHOICE, assumption 68). -/
def State.applySensors (r : NodeReply) (s : State) : State :=
  let s1 := s.setBay r.bay (Bay.takePresence r.presence s.now)
  let s2 := if (s.bay r.bay).stuck && !r.presence then s1.clear .presenceStuck (some r.bay) else s1
  let s3 := if s2.bayIs r.bay (· == .isolated) then s2
    else s2.setBay r.bay (Bay.takeZone (s2.zoneTaken r.bay r.gap) s2.now)
  if !r.presence && s3.bayIs r.bay (· == .closeWait) then
    s3.enterState r.bay (.closing .normal)
  else s3

/-- A good reply, whole (R87). PROVING_DISCREPANT of an earlier class ends between the release and the
proving class (DESIGN CHOICE, assumption 72). -/
def State.takeReply (r : NodeReply) (s : State) : State :=
  let s1 := ((s.keepReply r).applyRelease r).endDiscrepancy r
  (((s1.applyProving r (s.bay r.bay).returning).applyMotion r).applyIso r).applySensors r

/-! ### The loss of a node (R88) -/

/-- The states that a lost node takes to FAULT(NODE_LOST) and a persistent discrepancy to
FAULT(DISCREPANT) (R88, R90). -/
def BayState.canFail : BayState → Bool
  | .released | .isolated => false
  | _ => true

/-- The node of bay `b` is declared LOST, NODE_LOST is raised, and the bay's state changes (R88). -/
def State.loseNode (b : Nat) (s : State) : State :=
  let s1 := s.setBay b fun y => { y with
    lost := true, cls := .unknown, discrepancyFrom := none, discrepancyTaken := false
    recoveryFrom := none
    recon := if s.inStartup && y.recon.isNone then some .lost else y.recon }
  let s2 := s1.raise .nodeLost (some b) none
  if s2.bayIs b BayState.canFail then s2.enterState b (.fault .nodeLost) else s2

/-- A missed reply of bay `b`: the count rises, and at 3 the node is lost (R87, R88). -/
def State.missReply (b : Nat) (s : State) : State :=
  let n := (s.bay b).missed + 1
  let s1 := { s with bus := { s.bus with awaiting := none } }.setBay b fun y =>
    { y with missed := min missedLimit n }
  if n = missedLimit then s1.loseNode b else s1

end Sys2Proof.Machine
end

