-- ==== Sys2Proof/Machine/Operands.lean ====
section
/-!
DEFINITION. The operand forms of the commands that are requests (R150 to R155): the codes and payload
lengths of R162, the authority of R153 and R154, and the taking of a request: the checks of R152, the
decision of its owner, the reply, and the station's turn (R151).
-/
namespace Sys2Proof.Machine
open Sys2Proof

/-! ### Kinds, lengths and authority (R154, R162) -/

/-- The request kinds in the order of R154. -/
def ReqKind.all : List ReqKind :=
  [.heartbeat, .appendApproach, .withdrawApproach, .resyncQueue, .isolationConcurrence,
   .statusRequest, .identify, .stopped, .moving, .openRequest, .closeRequest, .statusRead, .bayRead,
   .alarmRead, .queueRead, .ackNext, .purgeAlarms, .confirmOpen, .closeStation, .retryBay, .closeBay,
   .restoreBay, .probeAlignment, .clearUsage, .setNoticeMask, .openStation, .confirmBerth,
   .isolateBay, .deisolateBay, .rearm, .enterCommissioning, .writeGeometry, .writeProfile,
   .writeParameters, .commit, .exitCommissioning, .commitAndExit, .testBayStep, .restart]

/-- The code of a request kind: 01h HEARTBEAT to 27h RESTART (R162). -/
def ReqKind.code (k : ReqKind) : Nat := ReqKind.all.idxOf k + 1

/-- The payload length the fields of a kind give (R162). The three values of WRITE_PROFILE take three
bytes each, the first of them also where door number 0 makes it a door count (DESIGN CHOICE, assumption
55). WRITE_PARAMETERS, whose value takes the bytes of its parameter, is `parametersLength`. -/
def ReqKind.length : ReqKind → Nat
  | .appendApproach => 8
  | .identify | .stopped => 4
  | .resyncQueue => 3
  | .probeAlignment => 5
  | .clearUsage | .setNoticeMask | .confirmBerth => 2
  | .writeGeometry => 10
  | .writeProfile => 11
  | .withdrawApproach | .isolationConcurrence | .bayRead | .alarmRead | .retryBay | .closeBay
  | .restoreBay | .isolateBay | .deisolateBay | .testBayStep => 1
  | .heartbeat | .statusRequest | .moving | .openRequest | .closeRequest | .statusRead | .queueRead
  | .ackNext | .purgeAlarms | .confirmOpen | .closeStation | .openStation | .rearm
  | .enterCommissioning | .writeParameters | .commit | .exitCommissioning | .commitAndExit
  | .restart => 0

/-- The payload of WRITE_PARAMETERS is the position and the value in its parameter's own bytes; a
position that names no parameter takes two bytes or three (DESIGN CHOICE, assumption 9). -/
def parametersLength (position len : Nat) : Bool :=
  match Param.ofPosition position with
  | some p => len == 1 + p.bytes
  | none => len == 2 || len == 3

/-- The classes that may send a kind (R154). -/
def ReqKind.allows (k : ReqKind) (c : Authority) : Bool :=
  match k with
  | .heartbeat | .appendApproach | .withdrawApproach | .resyncQueue | .isolationConcurrence
  | .statusRequest => c == .signalling
  | .identify | .stopped | .moving | .openRequest | .closeRequest => c == .train
  | .statusRead | .bayRead | .alarmRead | .queueRead | .ackNext | .purgeAlarms | .confirmOpen
  | .closeStation | .retryBay | .closeBay | .restoreBay | .probeAlignment | .clearUsage
  | .setNoticeMask => c == .attendant || c == .supervisor
  | .openStation | .confirmBerth | .isolateBay | .deisolateBay | .rearm | .enterCommissioning
  | .writeGeometry | .writeProfile | .writeParameters | .commit | .exitCommissioning
  | .commitAndExit | .testBayStep | .restart => c == .supervisor

/-- The authority class of a link (R153). -/
def State.authorityOf (s : State) : Port → Authority
  | .signalling => .signalling
  | .train => .train
  | .station => if s.link.supervisor then .supervisor else .attendant

/-- The origin of a station operation, by the level as it stands (R64, R153). -/
def State.stationOrigin (s : State) : Origin :=
  if s.link.supervisor then .supervisor else .attendant

/-! ### A valid Train Link frame (R139, R141) -/

/-- The phases in which the link coming up sends a BERTH_REPORT (R57). -/
def Phase.reportsBerth : Phase → Bool
  | .aligned | .misaligned | .opening | .opened | .closing | .closedProving | .secureBerthed => true
  | .vacant | .occupiedUnknown | .arriving | .departing => false

/-- The phases in which it sends a DOOR_REPORT (R141). -/
def Phase.reportsDoors : Phase → Bool
  | .opening | .opened | .closing | .closedProving | .secureBerthed => true
  | .vacant | .occupiedUnknown | .arriving | .aligned | .misaligned | .departing => false

/-- The Train Link has come up: TRAIN_LINK_LOST ends and the reports due are sent (R141). -/
def State.trainUp (s : State) : State :=
  let s1 := s.clear .trainLinkLost none
  let s2 := if s1.berth.phase.reportsBerth then s1.sendBerthReport else s1
  if s2.berth.phase.reportsDoors && s2.doors.operation.isSome then s2.sendDoorReport else s2

/-- A valid frame on the Train Link restarts the loss timer and brings the link up (R139). -/
def State.trainFrame (s : State) : State :=
  let s1 := { s with link := { s.link with
    trainUp := true, trainLossAt := s.now + s.param .trainLoss, lastTrainFrame := some s.now } }
  if s.link.trainUp then s1 else s1.trainUp

/-- What a good frame on a link does before it is looked at. -/
def State.goodFrame (p : Port) (s : State) : State := if p = .train then s.trainFrame else s

/-! ### Replies and the station's turn (R151, R152) -/

/-- What the owner of a request answers: the result, its detail, and the state that follows. -/
structure Answer where
  result : Result
  detail : Detail
  state : State

/-- A result without detail. -/
def State.answer (s : State) (r : Result) : Answer := ⟨r, .empty, s⟩

/-- DONE with a result detail. -/
def State.answerWith (s : State) (d : Detail) : Answer := ⟨.done, d, s⟩

/-- The station's turn after its reply: notices from the head of the outbox, each numbered and given
the lost count as it is sent (R151, R157, R161). -/
def SendState.turn (addr : Nat) : Nat → SendState → SendState
  | 0, d => d
  | n + 1, d =>
    match d.outbox with
    | [] => d
    | x :: rest =>
      ({ d with outbox := rest, lost := 0 }.unsolicited .station addr 0xF3
        (.notice x d.lost)).turn addr n

/-- Every frame on the Station Link carries the strap address, the others 00h (R151). -/
def State.frameAddr (s : State) : Port → Nat
  | .station => s.link.strap
  | .signalling | .train => 0

/-- The frame of a reply (R152, R162). -/
def State.replyFrame (s : State) (r : Req) (kind : Nat) (x : Result) (d : Detail) : Frame :=
  ⟨r.port, s.frameAddr r.port, (kind + 0x80) % 256, r.tag, .reply x d⟩

/-- The reply is sent: after the first `n` frames, which the arrival of the request gave, and before
those its action gave. -/
def State.sendReply (n : Nat) (f : Frame) (s : State) : State :=
  { s with send := { s.send with sent := s.send.sent.take n ++ f :: s.send.sent.drop n } }

/-- The station's turn, where the request came on the Station Link (R151). -/
def State.stationTurn (p : Port) (s : State) : State :=
  if p = .station then { s with send := s.send.turn s.link.strap turnNotices } else s

/-! ### A request is taken (R151 to R153) -/

/-- A good frame on the Station Link that carries another address (R151). -/
def State.otherAddress (s : State) (r : Req) : Bool :=
  decide (r.port = .station) && decide (r.addr ≠ s.link.strap)

/-- A request refused for its class: alarm AUTHORITY_REFUSED, and nothing else (R153). -/
def State.refuseAuthority (r : Req) (k : ReqKind) (s : State) : Answer :=
  (s.raise .authorityRefused none (some (.refused r.port k))).answer .privilege

/-- The decision of a request: length, authority, owner, in that order (R152). -/
def State.decideRequest (r : Req) (k : ReqKind) (lengthGood : Bool) (owner : State → Answer)
    (s : State) : Answer :=
  if !lengthGood then s.answer .format
  else if !k.allows (s.authorityOf r.port) then s.refuseAuthority r k
  else owner s

/-- A good request frame of kind code `kind`, decided by `decision`: the frame is noted, the request
decided, what follows from the state formed, the reply sent, and the station given its turn. A
frame for another address is ignored; without supply nothing is taken. -/
def State.takeFrame (r : Req) (kind : Nat) (decision : State → Answer) (s : State) : State :=
  if !s.powered then s
  else if s.otherAddress r then s.begin_.finish
  else
    let s1 := s.begin_.goodFrame r.port
    let a := decision s1
    (a.state.finish.sendReply s1.send.sent.length
      (s1.replyFrame r kind a.result a.detail)).stationTurn r.port

/-- A request of a kind of R154 is taken (R152). -/
def State.request_ (r : Req) (k : ReqKind) (owner : State → Answer) (s : State) : State :=
  s.takeFrame r k.code (State.decideRequest r k (r.len == k.length) owner)

end Sys2Proof.Machine
end

