-- ==== Sys2Proof/Machine/StoreOps.lean ====
section
/-!
DEFINITION. The shared operations of the Configuration Store (chapter 12): the entry to STARTUP with
the values of section 12.4, and the end of a load, successful or failed, step by step.
-/
namespace Sys2Proof.Machine
open Sys2Proof

/-! ### The entry to STARTUP (R169, section 12.4) -/

/-- What brings the mode into STARTUP: the supply, RESTART, or the end of commissioning. -/
inductive StartupBy where
  | power | restart | commissioning
deriving DecidableEq, Repr

/-- An isolation that stands: BY_CONTACT or BY_CONCURRENCE (R142). -/
def Isolation.isEffective : Isolation → Bool
  | .byContact | .byConcurrence => true
  | .notIsolated | .pending => false

/-- A bay record at the entry to STARTUP (R61, R87, R96, R142): an effective isolation is kept except
at power-on, the usage flags only where commissioning ends. -/
def Bay.atStartup (k : StartupBy) (now : Millis) (y : Bay) : Bay :=
  let kept := decide (k ≠ .power) && y.isolation.isEffective
  { Bay.blank now with
    state := if kept then some .isolated else none
    isolation := if kept then y.isolation else .notIsolated
    cycled := decide (k = .commissioning) && y.cycled
    obstructed := decide (k = .commissioning) && y.obstructed }

/-- The links at the entry (R135, R139, R151, R153): kept where commissioning ends; otherwise the
watchdog is EXPIRED, the Train Link DOWN, and the strap address and KEY are read. -/
def LinkState.atStartup (k : StartupBy) (l : Lines) (x : LinkState) : LinkState :=
  match k with
  | .commissioning => x
  | .power | .restart => ⟨none, false, 0, none, l.addr, l.key⟩

/-- The sending side at the entry (R157, R159, R160, R161): every interval idle; masks, numbers and
outbox at their defaults except where commissioning ends. -/
def SendState.atStartup (k : StartupBy) (d : SendState) : SendState :=
  match k with
  | .commissioning =>
    { d with
      signalling := { d.signalling with folds := .idle }
      train := { d.train with folds := .idle }
      station := { d.station with folds := .idle } }
  | .power | .restart =>
    { d with
      signalling := ⟨0, .signallingDefault, .idle⟩
      train := ⟨0, .trainDefault, .idle⟩
      station := ⟨0, .stationDefault, .idle⟩
      outbox := []
      lost := 0 }

/-- The Secure Evaluator at the entry (R111, R115): WITHHELD for MODE with the drives off; latch and
timers kept where commissioning ends, and otherwise cleared and started afresh. -/
def SecureState.atStartup (k : StartupBy) (l : Lines) (now : Millis) (x : SecureState) :
    SecureState :=
  match k with
  | .commissioning =>
    { x with
      asserted := false
      reasons := { Reasons.modeOnly with outputFault := (x.latchA || x.latchB) }
      changed := now / 1000
      driveA := false
      driveB := false
      disagreeA := if l.readbackA then some (x.disagreeA.getD now) else none
      disagreeB := if l.readbackB then some (x.disagreeB.getD now) else none }
  | .power | .restart =>
    ⟨false, .modeOnly, now / 1000, false, false,
      if l.readbackA then some now else none, if l.readbackB then some now else none, false, false⟩

/-- The store at the entry: no working copy, nothing being written, and the image read and checked
(R169, R170). At power-on no content is in force; otherwise it stands until the load ends (R12). -/
def StoreState.atStartup (k : StartupBy) (x : StoreState) : StoreState :=
  { x with
    working := none
    commit := .idle
    inForce := if k = .power then none else x.inForce
    loadDetail := checkImage x.image x.checksum }

/-- The blocks at the entry to STARTUP, before anything is told of it. -/
def State.startupValues (k : StartupBy) (s : State) : State :=
  let t := if k = .commissioning then s.now else 0
  let n := polledCount s.store.image
  { s with
    powered := true
    now := t
    mode := .startup
    link := s.link.atStartup k s.lines
    send := s.send.atStartup k
    berth := .initial
    doors := ⟨if k = .power then n else s.doors.count, none, []⟩
    bays := s.bays.map (Bay.atStartup k t)
    bus := ⟨n, 1, t, none, none⟩
    sense := ⟨.clear, none, none⟩
    emer := ⟨false, [], none⟩
    secure := s.secure.atStartup k s.lines t
    alarms := if k = .power then ⟨[], false⟩ else s.alarms
    store := s.store.atStartup k }

/-- The alarms that stay ACTIVE through an entry to STARTUP (R166). -/
def State.alarmStays (s : State) (k : AlarmKind) : Bool :=
  match k with
  | .sigLinkLost => s.link.watchdog.isNone
  | .storeFault => true
  | .outputFault => s.secure.latchA || s.secure.latchB
  | _ => false

/-- What the entry to STARTUP of a running part changes and a notice reports: the secure state or
reasons (R117), the phase, which stands VACANT until the load (R27; DESIGN CHOICE, assumption 3), and
each FAILED gap check, reset with the others (R96, R104). The cause set that is emptied with them is
reported by no notice (DESIGN CHOICE, assumption 56). -/
def State.startupNotices (s t : State) : List NoticeDetail :=
  (if s.secure.reasons = t.secure.reasons then []
    else [.secure t.secure.asserted t.secure.reasons t.secure.changed]) ++
  (if s.berth.phase = t.berth.phase then [] else [.phase t.berth.phase]) ++
  s.failedGaps.map fun x => .gap x.1 []

/-- The mode enters STARTUP (R169): the blocks take their values; one PLATFORM_STATUS stands for all that
changes with them (DESIGN CHOICE, assumption 57); a part that was running notices the changes; ACTIVE
alarms end except those R166 keeps, and after a restart RESTART is raised (R164). -/
def State.enterStartup (k : StartupBy) (s : State) : State :=
  let s1 := (s.startupValues k).sendStatus
  let s2 := if k = .power then s1 else s1.notices (s.startupNotices s1)
  let s3 := s2.clearWhere fun e => !s2.alarmStays e.kind
  if k = .restart then s3.raise .restart none none else s3

/-! ### The end of a load (R170, R171) -/

/-- Every bay polled has a reconciliation result (R170). -/
def State.reconciled (s : State) : Bool :=
  (upTo s.bus.pollCount).all fun b => (s.bay b).recon.isSome

/-- The reconciliation reply of a bay, where it has one. -/
def Bay.reconReply (y : Bay) : Option NodeReply :=
  match y.recon with
  | some (.reply r _) => some r
  | _ => none

/-- A bay when new content is taken (R12): a discrepancy timer is abandoned, reached or not, and the next
discrepant reply starts it anew against the new DISCREPANCY_PERSIST (DEDUCED, assumption 58). -/
def Bay.abandonTimer (y : Bay) : Bay :=
  { y with discrepancyFrom := none, discrepancyTaken := false }

/-- The zone field a bay reads afresh by: that of its last good reply, or the reading it has. -/
def Bay.lastZone (y : Bay) : Bool :=
  match y.lastReply with
  | some (r, _) => r.gap
  | none => y.zone

/-- The content of the load comes into force over a bay table of `n` bays; the records of the bays
beyond it are discarded (R12, R13, R84, R149), running timers are abandoned (R12), and each zone is taken
from the last good reply by its gap class in the new content (R97, R110; DEDUCED, assumption 38). -/
def State.takeContent (c : Option Content) (n : Nat) (s : State) : State :=
  let s1 := { s with
    store := { s.store with inForce := c }
    doors := { s.doors with count := n }
    bays := s.bays.take n ++ (s.bays.drop n).map fun _ => Bay.blank s.now }
  s1.forBays s1.tableBays fun b t =>
    t.setBay b fun y => y.abandonTimer.takeZone (t.zoneTaken b y.lastZone) t.now

/-- Reconciliation of bay `b` at a successful load (R171): PROVEN_LOCKED gives LOCKED, a LOST node
FAULT(NODE_LOST); any other stays without a state, marked for recovery. A kept isolation stands
(R149). -/
def State.reconcile (b : Nat) (s : State) : State :=
  let y := s.bay b
  if y.isolation.isEffective then s
  else
    match y.recon with
    | some .lost => s.enterState b (.fault .nodeLost)
    | some (.reply _ .provenLocked) => s.enterState b .locked
    | some (.reply _ _) | none => s

/-- Reconciliation of bay `b` at a failed load (R170): any other class is FAULT(UNEXPECTED_OPEN) with
PROVING_DISCREPANT. -/
def State.reconcileFailed (b : Nat) (s : State) : State :=
  let y := s.bay b
  if y.isolation.isEffective then s
  else
    match y.recon with
    | some .lost => s.enterState b (.fault .nodeLost)
    | some (.reply _ .provenLocked) => s.enterState b .locked
    | some (.reply r _) =>
      s.faultBay b .unexpectedOpen .provingDiscrepant (some (.unexpectedOpen r.code))
    | none => s

/-- The bay is to be isolated at the load: its isolation was kept or, where `contacts` says so, its
reconciliation reply carries ISO active and PROVEN_LOCKED (R149). -/
def Bay.toIsolate (contacts : Bool) (y : Bay) : Bool :=
  y.isolation.isEffective ||
    (contacts && match y.recon with
      | some (.reply r c) => r.iso && decide (c = .provenLocked)
      | _ => false)

/-- Isolations of the bays in ascending order against the limit (R149): a bay beyond it is not
isolated, enters FAULT(DISCREPANT) and raises PROVING_DISCREPANT, after what the entry clears (DESIGN
CHOICE, assumption 72). -/
def setIsolations (contacts : Bool) (limit : Nat) : Nat → List Nat → State → State
  | _, [], s => s
  | n, b :: bs, s =>
    if (s.bay b).toIsolate contacts then
      if n < limit then
        let manner := if (s.bay b).isolation.isEffective then (s.bay b).isolation else .byContact
        setIsolations contacts limit (n + 1) bs
          ((s.enterState b .isolated).setBay b fun y => { y with isolation := manner })
      else
        setIsolations contacts limit n bs
          (((s.enterState b (.fault .discrepant)).setBay b fun y =>
            { y with isolation := .notIsolated }).raise .provingDiscrepant (some b)
              (some .beyondLimit))
    else setIsolations contacts limit n bs s

/-- The isolations of the load are set (R149). -/
def State.loadIsolations (contacts : Bool) (s : State) : State :=
  setIsolations contacts (s.param .isolationLimit) 0 s.tableBays s

/-- The cause set is rebuilt: EVACUATION from the line, and each bay whose reconciliation reply shows
a release contact (R134). The notice of EVACUATION waits until the mode is set. -/
def State.rebuildCauses (s : State) : State :=
  let s1 := if s.lines.evac then s.joinEvacuation else s
  s1.forBays s1.tableBays fun b t =>
    match (t.bay b).reconReply with
    | some r => if r.releases then t.joinRelease b r.contact else t
    | none => t

/-- The phase is taken from the beams, the stability count starts, and a VACANT platform is watched
(R27, R45, R106). -/
def State.phaseAtLoad (s : State) : State :=
  let s1 := { s with berth := { s.berth with
    stableFrom := if s.beamsClear then none else some s.now
    stopTaken := false } }
  if s1.beamsClear then s1.enterVacant else s1.setPhase .occupiedUnknown

/-- The evacuation notice of a load, as the mode is set (R134). -/
def State.evacuationAtLoad (s : State) : State :=
  if s.emer.evacuation then s.evacuationNotice else s

/-- The mode of a successful load: LOCAL, or EMERGENCY without a context (R134, R119). -/
def State.modeAtLoad (s : State) : State :=
  if s.noCause then s.setMode .localMode
  else
    let s1 := (s.setMode .emergency).evacuationAtLoad
    s1.notice (.emergency .entered s1.causes s1.mode)

/-- The bays marked for recovery: those without a state (R171). -/
def State.markedBays (s : State) : List Nat := s.tableBays.filter fun b => (s.bay b).state.isNone

/-- A load that passed ends (R171), in the order of its steps. -/
def State.endLoad (s : State) : State :=
  let s1 := ({ s with berth := .initial }.takeContent (some s.store.image)
    s.store.image.count).clear .storeFault none
  let s2 := s1.forBays s1.tableBays State.reconcile
  let s3 := ((s2.loadIsolations true).rebuildCauses).phaseAtLoad.modeAtLoad
  s3.startClose .recoverClose .part s3.markedBays

/-- A load that failed with detail `d` ends (R170), in the order of its steps. -/
def State.endFailedLoad (d : StoreDetail) (s : State) : State :=
  let s1 := { s with berth := .initial }.takeContent none s.bus.pollCount
  let s2 := s1.forBays s1.tableBays State.reconcileFailed
  let s3 := ((s2.loadIsolations false).rebuildCauses).phaseAtLoad
  (s3.setMode .configFault).evacuationAtLoad.raise .storeFault none (some (.store d))

/-! ### The commit write (R175) -/

/-- The checks of COMMIT in their order (R175): the working copy, the isolations against its limit,
and the write count. -/
inductive CommitCheck where
  | passed
  | busy
  | violation (v : Violation)
  | isolationLimit
  | wearLimit
deriving DecidableEq, Repr

/-- The number of ISOLATED bays. -/
def State.isolatedCount (s : State) : Nat :=
  (s.tableBays.filter fun b => s.bayIs b (· == .isolated)).length

/-- The first check of COMMIT that fails (R175). -/
def State.commitCheck (s : State) : CommitCheck :=
  match s.store.commit with
  | .writing _ _ => .busy
  | .idle =>
    let w := s.store.working.getD s.store.image
    match firstViolation w with
    | some v => .violation v
    | none =>
      if w.param .isolationLimit < s.isolatedCount then .isolationLimit
      else if wearLimit ≤ s.store.writeCount then .wearLimit
      else .passed

/-- A commit write is in progress (R175). -/
def State.isWriting (s : State) : Bool :=
  match s.store.commit with
  | .writing _ _ => true
  | .idle => false

/-- An accepted COMMIT: the write count goes up and the write begins (R175). -/
def State.startCommit (thenExit : Bool) (s : State) : State :=
  { s with store := { s.store with
    writeCount := s.store.writeCount + 1, commit := .writing s.now thenExit } }

/-- The write ends: image and checksum are the working copy's, and COMMIT_END is told with the
result DONE and the write count (R175). -/
def State.endCommit (s : State) : State :=
  let w := s.store.working.getD s.store.image
  let s1 := { s with store := { s.store with
    image := w, checksum := checksumOf w, commit := .idle } }
  s1.notice (.commitEnd .done s1.store.writeCount)

end Sys2Proof.Machine
end

