-- ==== Sys2Proof/Machine/Supply.lean ====
section
/-!
DEFINITION. The commands of the supply and of the load (R169 to R171, R175): POWER_ON, POWER_LOSS,
LOAD_SUCCEEDED and LOAD_FAILED.
-/
namespace Sys2Proof.Machine
open Sys2Proof

/-- The outcome of a command in this model. -/
abbrev Outcome := Host.Outcome State Fault Refusal

/-- POWER_ON: the supply is applied, the blocks take their power-on values, STARTUP begins and the
load with it (R169). -/
def execPowerOn (s : State) : Outcome := .next (s.begin_.enterStartup .power).finish

/-- What the store holds after the supply is lost: during a write the image and checksum may not
agree, and the write count stands already increased (R175). -/
def State.tornStore (s : State) : State :=
  match s.store.commit with
  | .idle => s
  | .writing _ _ =>
    { s with
      store := { s.store with
        image := (Config.tornStore s.freeCount).1
        checksum := (Config.tornStore s.freeCount).2
        commit := .idle }
      freeCount := s.freeCount + 1 }

/-- The part without its supply: both drivers are off (R114). -/
def State.unpowered (s : State) : State :=
  { s with
    powered := false
    secure := { s.secure with
      asserted := false, reasons := .modeOnly, driveA := false, driveB := false
      disagreeA := none, disagreeB := none } }

/-- POWER_LOSS: the supply is removed (R114, R175). -/
def execPowerLoss (s : State) : Outcome :=
  .next (if s.powered then s.begin_.tornStore.unpowered else s)

/-- The load can end: STARTUP, with a result for every bay polled (R170). -/
def State.loadEnds (s : State) : Bool := s.inStartup && s.reconciled

/-- A load whose image passed ends once it can (R171). -/
def State.loadSucceeded (s : State) : State :=
  if s.store.loadDetail.isNone && s.loadEnds then s.endLoad else s

/-- LOAD_SUCCEEDED (R171). Before the load can end nothing happens. -/
def execLoadSucceeded (s : State) : Outcome := .next (s.event State.loadSucceeded)

/-- A load whose image failed ends once it can (R170). -/
def State.loadFailed (s : State) : State :=
  match s.store.loadDetail with
  | some d => if s.loadEnds then s.endFailedLoad d else s
  | none => s

/-- LOAD_FAILED (R170). Before the load can end nothing happens. -/
def execLoadFailed (s : State) : Outcome := .next (s.event State.loadFailed)

end Sys2Proof.Machine
end

