-- ==== Sys2Proof/Machine/Berth.lean ====
section
/-!
DEFINITION. The requests that act on the berth record (chapters 2 and 3): IDENTIFY, STOPPED and MOVING
of the train, CONFIRM_OPEN, CONFIRM_BERTH and PROBE_ALIGNMENT of the station.
-/
namespace Sys2Proof.Machine
open Sys2Proof

/-! ### IDENTIFY (R30, R31) -/

/-- The three values an IDENTIFY carries, where profile and orientation are good (R30). -/
structure Identity where
  trainId : Nat
  profile : Nat
  orientation : Orientation
deriving DecidableEq, Repr

/-- The three values equal those of a berth record. -/
def Identity.matches (i : Identity) (r : Berth) : Bool :=
  decide (r.trainId = some i.trainId) && decide (r.profile = some i.profile) &&
    decide (r.orientation = some i.orientation)

/-- The three values written into an unannounced record (R30). -/
def Identity.write (i : Identity) (r : Berth) : Berth :=
  { r with trainId := some i.trainId, profile := some i.profile, orientation := some i.orientation
           identified := true, identifiedId := some i.trainId }

/-- IDENTITY_MISMATCH with the record's and the identified profile (R30, R31). -/
def State.raiseMismatch (i : Identity) (s : State) : State :=
  s.raise .identityMismatch none
    (some (.profiles (s.berth.record.bind (·.profile)) i.profile))

/-- The dispute of R31: the record keeps its values, the permit becomes NONE, the alarm is raised. -/
def State.dispute (i : Identity) (s : State) : State :=
  (s.setRecord fun r => { r with
    disputed := true, identifiedId := some i.trainId, permit := .notGranted }).raiseMismatch i

/-- IDENTIFY in ARRIVING or OCCUPIED_UNKNOWN with a berth record (R30). -/
def State.identifyRecord (i : Identity) (r : Berth) (s : State) : Answer :=
  if r.disputed then s.answer .wrongState
  else if r.announced then
    if i.matches r then
      (s.setRecord fun x => { x with identified := true, identifiedId := some i.trainId }).answer .done
    else (s.dispute i).answer .done
  else (s.setRecord i.write).settlePending.answer .done

/-- IDENTIFY with no berth record makes an unannounced one (R30). -/
def State.identifyNew (i : Identity) (s : State) : Answer :=
  ({ s with berth := { s.berth with
    record := some (i.write .blank) } }.settlePending).answer .done

/-- IDENTIFY from ALIGNED on does not change the identity (R30). -/
def State.identifyLate (i : Identity) (s : State) : Answer :=
  if (s.berth.record.map i.matches).getD false then s.answer .already
  else (s.raiseMismatch i).answer .wrongPhase

/-- The identity of an IDENTIFY or CONFIRM_BERTH whose profile slot is not empty and whose orientation
is a named one (R30, R31, R155). -/
def State.knownTrain (profile : Nat) (o : Coded Orientation) (s : State) : Option Orientation :=
  match o with
  | .named x => if s.profileKnown profile then some x else none
  | .outside => none

/-- The decision of IDENTIFY (R30). -/
def State.identify (f : IdentifyFields) (s : State) : Answer :=
  if !s.working then s.answer .wrongMode
  else
    match s.knownTrain f.profile f.orientation with
    | none => s.answer .invalidArgument
    | some o =>
      let i : Identity := ⟨f.trainId, f.profile, o⟩
      match s.berth.phase with
      | .vacant | .departing => s.answer .wrongPhase
      | .occupiedUnknown | .arriving =>
        match s.berth.record with
        | none => s.identifyNew i
        | some r => s.identifyRecord i r
      | .aligned | .misaligned | .opening | .opened | .closing | .closedProving | .secureBerthed =>
        s.identifyLate i

/-- IDENTIFY (R30, R31). -/
def execIdentify (r : Req) (f : IdentifyFields) (s : State) : Outcome :=
  .next (s.request_ r .identify (State.identify f))

/-! ### STOPPED and MOVING (R36, R44, R58) -/

/-- A train offset that is usable (R44). -/
def usableOffset (t : Option Mm) : Option Mm :=
  match t with
  | some x => if -offsetLimit ≤ x ∧ x ≤ offsetLimit then some x else none
  | none => none

/-- A usable offset replaces the held one (R44). -/
def State.holdOffset (t : Option Mm) (s : State) : State :=
  match usableOffset t with
  | some x => { s with berth := { s.berth with heldOffset := some x } }
  | none => s

/-- The train offset the alignment in force used (R58). -/
def State.usedOffset (s : State) : Option Mm :=
  (s.berth.record.bind fun r => r.align.used).bind (·.offset)

/-- A late train report realigns where it carries a usable offset that the alignment in force did not
use (R58). -/
def State.lateReport (t : Option Mm) (s : State) : State :=
  match usableOffset t, s.settled with
  | some x, some (slot, o) => if s.usedOffset = some x then s else s.align slot o
  | _, _ => s

/-- What a STOPPED does, by phase (R36, R44, R46, R58). -/
def State.stop (t : Option Mm) (s : State) : State :=
  let s1 := s.holdOffset t
  match s1.berth.phase with
  | .arriving | .occupiedUnknown => s1.takeStop
  | .aligned | .misaligned => s1.lateReport t
  | .vacant | .opening | .opened | .closing | .closedProving | .secureBerthed | .departing => s1

/-- A report of the train: refused in the modes out of service and then in VACANT, and DONE elsewhere
(R36; the order is a DESIGN CHOICE, assumption 65). -/
def State.report (f : State → State) (s : State) : Answer :=
  if !s.working then s.answer .wrongMode
  else if s.berth.phase = .vacant then s.answer .wrongPhase
  else (f s).answer .done

/-- STOPPED (R36, R44, R46, R58). -/
def execStopped (r : Req) (offset : Option Mm) (s : State) : Outcome :=
  .next (s.request_ r .stopped (State.report (State.stop offset)))

/-- MOVING: movement by phase (R36 to R39, R77). -/
def execMoving (r : Req) (s : State) : Outcome :=
  .next (s.request_ r .moving (State.report fun t => t.noteMovement.movement))

/-! ### CONFIRM_OPEN and CONFIRM_BERTH (R31, R35) -/

/-- The decision of CONFIRM_OPEN (R35). -/
def State.confirmOpen (s : State) : Answer :=
  if !s.working then s.answer .wrongMode
  else if s.berth.phase = .vacant ∨ s.berth.phase = .departing then s.answer .wrongPhase
  else
    match s.berth.record with
    | none => s.answer .wrongPhase
    | some r =>
      if r.disputed then s.answer .wrongState
      else if r.permit ≠ .notGranted then s.answer .already
      else (s.setRecord fun x => { x with permit := .byStation }).answer .done

/-- CONFIRM_OPEN (R35). -/
def execConfirmOpen (r : Req) (s : State) : Outcome :=
  .next (s.request_ r .confirmOpen State.confirmOpen)

/-- The record a CONFIRM_BERTH leaves (R31): profile and orientation written, confirmed, no dispute,
and the identified train id in place of the announced one where an IDENTIFY was received. -/
def Berth.confirm (slot : Nat) (o : Orientation) (r : Berth) : Berth :=
  { r with profile := some slot, orientation := some o, confirmed := true, disputed := false
           trainId := match r.identifiedId with
             | some i => some i
             | none => r.trainId }

/-- An accepted CONFIRM_BERTH: the record, the end of IDENTITY_MISMATCH, and the alignment the phase
calls for (R31, R32). -/
def State.confirm (slot : Nat) (o : Orientation) (s : State) : State :=
  let s1 := { s with berth := { s.berth with
    record := some ((s.berth.record.getD .blank).confirm slot o) } }.clear .identityMismatch none
  match s1.berth.phase with
  | .occupiedUnknown | .aligned | .misaligned => s1.align slot o
  | .vacant | .arriving | .opening | .opened | .closing | .closedProving | .secureBerthed
  | .departing => s1.settlePending

/-- The decision of CONFIRM_BERTH (R31): the mode, then the fields, then the phase (DESIGN CHOICE,
assumption 65). -/
def State.confirmBerth (slot : Nat) (o : Coded Orientation) (s : State) : Answer :=
  if !s.working then s.answer .wrongMode
  else
    match s.knownTrain slot o with
    | none => s.answer .invalidArgument
    | some x =>
      match s.berth.phase with
      | .arriving | .occupiedUnknown | .aligned | .misaligned => (s.confirm slot x).answer .done
      | .vacant | .opening | .opened | .closing | .closedProving | .secureBerthed | .departing =>
        s.answer .wrongPhase

/-- CONFIRM_BERTH (R31). -/
def execConfirmBerth (r : Req) (profile : Nat) (orientation : Coded Orientation) (s : State) :
    Outcome :=
  .next (s.request_ r .confirmBerth (State.confirmBerth profile orientation))

/-! ### PROBE_ALIGNMENT (R18, R60) -/

/-- The bays a probe takes as available in COMMISSIONING: those beyond the bay table too (R60). -/
def State.probeBays (c : Content) (s : State) : List Nat :=
  (upTo c.count).filter fun b => !s.inTable b || !s.bayIs b BayState.isUnavailable

/-- A probe on a content (R60). -/
def State.probeOn (c : Content) (f : ProbeFields) (s : State) : Answer :=
  match f.orientation with
  | .outside => s.answer .invalidArgument
  | .named o =>
    if (c.profile f.profile).isEmpty || !(usableOffset (some f.d)).isSome then
      s.answer .invalidArgument
    else s.answerWith (.probe (probe c (s.probeBays c) f.profile o f.d))

/-- The decision of PROBE_ALIGNMENT (R13, R18, R60). It changes nothing. -/
def State.probeAlignment (f : ProbeFields) (s : State) : Answer :=
  match s.mode with
  | .startup => s.answer .wrongMode
  | .configFault =>
    match s.store.loadDetail with
    | some d => ⟨.validation, .store d, s⟩
    | none => s.answer .validation
  | .commissioning =>
    let w := s.store.working.getD s.store.image
    match firstViolation w with
    | some v => ⟨.validation, .store (.violation v), s⟩
    | none => s.probeOn w f
  | .localMode | .normal | .emergency => s.probeOn s.content f

/-- PROBE_ALIGNMENT (R60). -/
def execProbeAlignment (r : Req) (f : ProbeFields) (s : State) : Outcome :=
  .next (s.request_ r .probeAlignment (State.probeAlignment f))

end Sys2Proof.Machine
end

