-- ==== Sys2Proof/Machine/Commissioning.lean ====
section
/-!
DEFINITION. The requests of commissioning (R94, R172 to R176), the end of a commit write, and RESTART.
-/
namespace Sys2Proof.Machine
open Sys2Proof

/-! ### ENTER_COMMISSIONING (R173) -/

/-- Every bay is LOCKED or ISOLATED and no operation is BUSY. -/
def State.atRest (s : State) : Bool := !s.someBayNotLocked && s.busy.isNone

/-- The working copy is made of the image and the mode becomes COMMISSIONING. -/
def State.enterCommissioning (s : State) : State :=
  { s with store := { s.store with working := some s.store.image } }.setMode .commissioning

/-- The decision of ENTER_COMMISSIONING, its checks in order (R173). -/
def State.enterCommissioningRequest (s : State) : Answer :=
  match s.mode with
  | .commissioning => s.answer .already
  | .startup | .emergency => s.answer .wrongMode
  | .configFault =>
    if s.noCause then s.enterCommissioning.answer .done else s.answer .causesActive
  | .normal | .localMode =>
    if s.berth.phase ≠ .vacant then s.answer .wrongPhase
    else if !s.atRest then s.answer .wrongState
    else s.enterCommissioning.answer .done

/-- ENTER_COMMISSIONING (R173). -/
def execEnterCommissioning (r : Req) (s : State) : Outcome :=
  .next (s.request_ r .enterCommissioning State.enterCommissioningRequest)

/-! ### The writes (R174) -/

/-- A value brought into a range (R174). -/
def clampInt (lo hi x : Int) : Int := max lo (min hi x)

/-- What a write gives: nothing where a field names no item, and otherwise the new working copy with
whether any value was clamped (R174). -/
abbrev Written := Option (Content × Bool)

/-- Replaces item `i`, counted from 0, of a list. -/
def changeAt {α : Type} (i : Nat) (f : α → α) (l : List α) : List α := l.modify i f

/-- WRITE_GEOMETRY on the working copy (R174). -/
def writeGeometry (f : GeometryFields) (w : Content) : Written :=
  match f.item with
  | .outside => none
  | .named .bayCount =>
    let n := (clampInt 1 24 f.number).toNat
    some ({ w with count := n }, n != f.number)
  | .named .bay =>
    match f.disposition with
    | .outside => none
    | .named disp =>
      if 1 ≤ f.number ∧ f.number ≤ 24 then
        let c := clampInt (-250000) 0 f.position
        let v := clampInt 1200 3000 f.width
        let g := min 3 f.gapClass
        let e : BayEntry := ⟨c, v, g, if disp = .hold then 0 else 1⟩
        some ({ w with bays := changeAt (f.number - 1) (fun _ => e) w.bays },
          decide (c ≠ f.position ∨ v ≠ f.width ∨ g ≠ f.gapClass))
      else none
  | .named .beam =>
    if f.number ≤ 15 then
      let z := clampInt (-2000) 2000 f.position
      some ({ w with beams := changeAt f.number (fun _ => z) w.beams }, decide (z ≠ f.position))
    else none

/-- WRITE_PROFILE on the working copy (R174): door number 0 writes the door count, the length and
MIN_CLEAR of the slot, 1..32 the offset and width of that door. -/
def writeProfile (f : ProfileFields) (w : Content) : Written :=
  if 7 < f.slot ∨ 32 < f.door then none
  else if f.door = 0 then
    let n := clampInt 0 32 f.first
    let l := clampInt 10000 250000 f.second
    let c := clampInt 500 1900 f.third
    let ps := changeAt f.slot
      (fun p => { p with count := n.toNat, length := l, minClear := c }) w.profiles
    some ({ w with profiles := ps },
      decide (n ≠ f.first ∨ l ≠ f.second ∨ c ≠ f.third))
  else
    let o := clampInt 0 250000 f.first
    let d := clampInt 900 1900 f.second
    let ps := changeAt f.slot
      (fun p => { p with doors := changeAt (f.door - 1) (fun _ => ⟨o, d⟩) p.doors }) w.profiles
    some ({ w with profiles := ps },
      decide (o ≠ f.first ∨ d ≠ f.second))

/-- WRITE_PARAMETERS on the working copy (R174); a QUEUE_POLICY must be a named value. -/
def writeParameters (f : ParameterFields) (w : Content) : Written :=
  match Param.ofPosition f.position with
  | none => none
  | some p =>
    let v := clampInt p.range.1 p.range.2 f.value
    if p = .queuePolicy ∧ v ≠ f.value then none
    else some ({ w with params := changeAt p.index (fun _ => v) w.params }, decide (v ≠ f.value))

/-- A write to the working copy (R174): in COMMISSIONING alone, not while a commit is being written;
CLAMPED where a value was brought into its range. BUSY is judged before the fields (DESIGN CHOICE,
assumption 65). -/
def State.write (f : Content → Written) (s : State) : Answer :=
  if s.mode ≠ .commissioning then s.answer .wrongMode
  else if s.isWriting then s.answer .busy
  else
    match f (s.store.working.getD s.store.image) with
    | none => s.answer .invalidArgument
    | some (w, clamped) =>
      { s with store := { s.store with working := some w } }.answer
        (if clamped then .clamped else .done)

/-- WRITE_GEOMETRY (R174). -/
def execWriteGeometry (r : Req) (f : GeometryFields) (s : State) : Outcome :=
  .next (s.request_ r .writeGeometry (State.write (writeGeometry f)))

/-- WRITE_PROFILE (R174). -/
def execWriteProfile (r : Req) (f : ProfileFields) (s : State) : Outcome :=
  .next (s.request_ r .writeProfile (State.write (writeProfile f)))

/-- WRITE_PARAMETERS (R174); its length is that of the parameter it names (R162). -/
def execWriteParameters (r : Req) (f : ParameterFields) (s : State) : Outcome :=
  .next (s.takeFrame r ReqKind.writeParameters.code
    (State.decideRequest r .writeParameters (parametersLength f.position r.len)
      (State.write (writeParameters f))))

/-! ### COMMIT (R175) and leaving commissioning (R176) -/

/-- A commit by the checks of R175; `thenExit` for COMMIT_AND_EXIT. -/
def State.commitChecked (thenExit : Bool) (s : State) : Answer :=
  match s.commitCheck with
  | .busy => s.answer .busy
  | .violation v => ⟨.validation, .store (.violation v), s⟩
  | .isolationLimit => s.answer .isolationLimit
  | .wearLimit => s.answer .wearLimit
  | .passed => (s.startCommit thenExit).answer .accepted

/-- COMMIT (R175). -/
def execCommit (r : Req) (s : State) : Outcome :=
  .next (s.request_ r .commit fun t =>
    if t.mode ≠ .commissioning then t.answer .wrongMode else t.commitChecked false)

/-- Some TEST bay does not stand locked (R94, R176). -/
def State.testBayAstray (s : State) : Bool :=
  s.tableBays.any fun b => s.bayIs b (· == .test) && !(s.bay b).standsLocked

/-- The checks both ways of leaving commissioning make first (R176), a TEST bay astray before a write in
progress (DESIGN CHOICE, assumption 65). -/
def State.leaveChecked (go : State → Answer) (s : State) : Answer :=
  if s.mode ≠ .commissioning then s.answer .wrongMode
  else if s.testBayAstray then s.answer .wrongState
  else if s.isWriting then s.answer .busy
  else go s

/-- EXIT_COMMISSIONING: the working copy is discarded and the mode enters STARTUP (R176). -/
def execExitCommissioning (r : Req) (s : State) : Outcome :=
  .next (s.request_ r .exitCommissioning (State.leaveChecked fun t =>
    (t.enterStartup .commissioning).answer .done))

/-- COMMIT_AND_EXIT: the checks of COMMIT follow, and the exit waits for the end of the write
(R176). -/
def execCommitAndExit (r : Req) (s : State) : Outcome :=
  .next (s.request_ r .commitAndExit (State.leaveChecked (State.commitChecked true)))

/-- The commit write has lasted its 600 ms (R175). -/
def State.commitDue (s : State) : Bool :=
  match s.store.commit with
  | .idle => false
  | .writing since _ => s.elapsed since commitWriteMs

/-- The write in progress is that of a COMMIT_AND_EXIT (R176). -/
def State.exitsAfterWrite (s : State) : Bool :=
  match s.store.commit with
  | .idle => false
  | .writing _ thenExit => thenExit

/-- COMMIT_WRITE_END: 600 ms after its COMMIT the write ends, and a COMMIT_AND_EXIT then leaves
commissioning (R175, R176). -/
def State.commitWriteEnd (s : State) : State :=
  if s.commitDue then
    if s.exitsAfterWrite && decide (s.mode = .commissioning) then
      s.endCommit.enterStartup .commissioning
    else s.endCommit
  else s

/-- COMMIT_WRITE_END (R175). -/
def execCommitWriteEnd (s : State) : Outcome := .next (s.event State.commitWriteEnd)

/-! ### TEST_BAY_STEP (R94) and RESTART (R172) -/

/-- The step that follows the position of TEST bay `b` is in progress from now (R94). -/
def Bay.beginStep (now : Millis) (y : Bay) : Bay :=
  match y.step with
  | some ⟨pos, _, last⟩ => { y with step := some ⟨pos, some (pos.step, now), last⟩ }
  | none => { y with step := some ⟨.locked, some (.unlock, now), none⟩ }

/-- An accepted TEST_BAY_STEP (R94): a LOCKED bay enters TEST at position LOCKED. -/
def State.testStep (b : Nat) (s : State) : State :=
  let s1 := if s.bayIs b (· == .locked) then s.enterState b .test else s
  s1.setBay b (Bay.beginStep s1.now)

/-- The decision of TEST_BAY_STEP, its checks in order (R94). -/
def State.testBayStep (b : Nat) (s : State) : Answer :=
  if s.mode ≠ .commissioning then s.answer .wrongMode
  else if !s.inTable b then s.answer .invalidArgument
  else if !s.bayIs b (fun x => x == .locked || x == .test) then s.answer .wrongState
  else if (s.bay b).progress.isSome then s.answer .busy
  else (s.testStep b).answer .accepted

/-- TEST_BAY_STEP (R94). -/
def execTestBayStep (r : Req) (bay : Nat) (s : State) : Outcome :=
  .next (s.request_ r .testBayStep (State.testBayStep bay))

/-- The decision of RESTART (R172). -/
def State.restart (s : State) : Answer :=
  if s.mode = .startup then s.answer .wrongMode
  else if s.isWriting then s.answer .busy
  else (s.enterStartup .restart).answer .done

/-- RESTART (R172). -/
def execRestart (r : Req) (s : State) : Outcome :=
  .next (s.request_ r .restart State.restart)

end Sys2Proof.Machine
end

