-- ==== Sys2Proof/Machine/DoorBus.lean ====
section
/-!
DEFINITION. The events of the Door Bus (chapter 5): a poll, a good reply, and a reply missed.
-/
namespace Sys2Proof.Machine
open Sys2Proof

/-- The slot of the latest poll is over (R84). -/
def State.slotOver (s : State) : Bool := decide (s.bus.nextPollAt ≤ s.now)

/-- The next bay is polled, once the slot before it is over and has had its outcome (R84). -/
def State.poll (s : State) : State :=
  if s.bus.awaiting.isNone && s.slotOver then s.pollBay else s

/-- POLL (R84). -/
def execPoll (s : State) : Outcome := .next (s.event State.poll)

/-- A reply that is awaited is taken (R87). -/
def State.nodeReply (r : NodeReply) (s : State) : State :=
  if s.bus.awaiting = some r.bay then s.takeReply r else s

/-- The poll that awaits its reply has had another outcome (R87). -/
def State.nodeReplyMissed (s : State) : State :=
  match s.bus.awaiting with
  | some b => s.missReply b
  | none => s

/-- NODE_REPLY: a good reply of the bay polled, in its slot, is kept and applied field by field (R87).
A reply that is not awaited is not the outcome of a poll and is not used. -/
def execNodeReply (r : NodeReply) (s : State) : Outcome :=
  .next (s.event (State.nodeReply r))

/-- NODE_REPLY_MISSED: the poll has had an outcome that is no good reply (R87, R88). -/
def execNodeReplyMissed (s : State) : Outcome :=
  .next (s.event State.nodeReplyMissed)

end Sys2Proof.Machine
end

