-- ==== Sys2Proof/Machine/Doors.lean ====
section
/-!
DEFINITION. The requests that move bays or change their standing (chapters 4, 8 and 9): opening and
closing, single-bay actions, usage flags, isolation, restoring after a release, and REARM.
-/
namespace Sys2Proof.Machine
open Sys2Proof

/-! ### OPEN_REQUEST and OPEN (R67) -/

/-- The mode check of opening and closing requests (R67, R70): EMERGENCY refuses with EMERGENCY, the
modes out of service with WRONG_MODE. -/
def State.doorMode (s : State) (go : State → Answer) : Answer :=
  match s.mode with
  | .emergency => s.answer .emergency
  | .startup | .configFault | .commissioning => s.answer .wrongMode
  | .normal | .localMode => go s

/-- The checks of an opening request after its mode, in order (R67). -/
def State.openChecked (origin : Origin) (s : State) : Answer :=
  match s.berth.phase with
  | .opening => s.answer .already
  | .aligned | .opened | .closing | .closedProving | .secureBerthed =>
    if (s.berth.record.map (·.permit)).getD .notGranted = .notGranted then s.answer .noPermit
    else if s.openTargets.isEmpty then s.answer .already
    else (s.startOpen .openOp origin s.openTargets).answer .accepted
  | .vacant | .occupiedUnknown | .arriving | .misaligned | .departing => s.answer .wrongPhase

/-- OPEN_REQUEST from the train (R67). -/
def execOpenRequest (r : Req) (s : State) : Outcome :=
  .next (s.request_ r .openRequest fun t => t.doorMode (State.openChecked .train))

/-- OPEN from a supervisor (R67). -/
def execOpenStation (r : Req) (s : State) : Outcome :=
  .next (s.request_ r .openStation fun t => t.doorMode (State.openChecked t.stationOrigin))

/-! ### CLOSE_REQUEST and CLOSE (R70) -/

/-- The checks of a closing request after its mode, in order (R70). -/
def State.closeChecked (origin : Origin) (s : State) : Answer :=
  if s.closeBusy then s.answer .already
  else if s.closeTargets.isEmpty then s.answer .already
  else ((s.startClose .closeOp origin s.closeTargets).phaseForClose).answer .accepted

/-- CLOSE_REQUEST from the train (R70). -/
def execCloseRequest (r : Req) (s : State) : Outcome :=
  .next (s.request_ r .closeRequest fun t => t.doorMode (State.closeChecked .train))

/-- CLOSE from an attendant or supervisor (R70). -/
def execCloseStation (r : Req) (s : State) : Outcome :=
  .next (s.request_ r .closeStation fun t => t.doorMode (State.closeChecked t.stationOrigin))

/-! ### Single-bay actions (R79 to R81) -/

/-- The bay is a target of the BUSY operation and has no outcome yet (R79). -/
def State.ownedByOperation (b : Nat) (s : State) : Bool :=
  match s.busy with
  | some o => o.targets.contains b && (o.outcomeOf b).isNone
  | none => false

/-- The checks every single-bay action makes, in the order R79 names them (DESIGN CHOICE, assumption 65). -/
def State.singleBay (b : Nat) (accepts : BayState → Bool) (act : State → State) (s : State) :
    Answer :=
  if !s.working then s.answer .wrongMode
  else if !s.inTable b then s.answer .invalidArgument
  else if s.ownedByOperation b then s.answer .busy
  else if !s.bayIs b accepts then s.answer .wrongState
  else (act s).answer .accepted

/-- RETRY_BAY: a HELD bay starts closing afresh, count 0, presence honoured, speed NORMAL (R80). -/
def State.retryBay (b : Nat) (s : State) : State :=
  (s.setBay b fun y => { y with retry := 0, closeBy := some .retryBay }).startClosing b .retryBay

/-- RETRY_BAY (R79, R80). -/
def execRetryBay (r : Req) (bay : Nat) (s : State) : Outcome :=
  .next (s.request_ r .retryBay (State.singleBay bay BayState.isHeld (State.retryBay bay)))

/-- HELD, OPEN, FAULT(OPEN_TIMEOUT) or FAULT(CLOSE_TIMEOUT): what CLOSE_BAY accepts (R81). -/
def BayState.isClosable : BayState → Bool
  | .held _ | .opened | .fault .openTimeout | .fault .closeTimeout => true
  | _ => false

/-- CLOSE_BAY: the bay enters CLOSING (NUDGE) at once, its count kept (R81). -/
def State.closeBay (b : Nat) (s : State) : State :=
  (s.setBay b fun y => { y with closeBy := some .closeBay }).startClosing b .closeBay

/-- CLOSE_BAY (R79, R81). -/
def execCloseBay (r : Req) (bay : Nat) (s : State) : Outcome :=
  .next (s.request_ r .closeBay (State.singleBay bay BayState.isClosable (State.closeBay bay)))

/-! ### CLEAR_USAGE (R82) -/

/-- Both usage flags of a bay are cleared (R82). -/
def Bay.clearUsage (y : Bay) : Bay := { y with cycled := false, obstructed := false }

/-- The decision of CLEAR_USAGE (R82): an absent bay names all bays. -/
def State.clearUsage (bay : Option Nat) (s : State) : Answer :=
  if s.mode = .startup then s.answer .wrongMode
  else
    match bay with
    | none => (s.forBays s.tableBays fun b t => t.setBay b Bay.clearUsage).answer .done
    | some b =>
      if s.inTable b then (s.setBay b Bay.clearUsage).answer .done else s.answer .invalidArgument

/-- CLEAR_USAGE (R82). -/
def execClearUsage (r : Req) (bay : Option Nat) (s : State) : Outcome :=
  .next (s.request_ r .clearUsage (State.clearUsage bay))

/-! ### ISOLATE_BAY and DEISOLATE_BAY (R143, R148) -/

/-- The request of bay `b` at the tail of the pending list with the present time (R143). -/
def State.queueIsolation (b : Nat) (s : State) : State :=
  let list : List IsolationRequest :=
    (s.doors.requests.filter fun q => q.bay != b) ++ [⟨b, s.seconds, s.now⟩]
  ({ s with doors := { s.doors with requests := list } }).setBay b
    fun y => { y with isolation := .pending }

/-- The decision of ISOLATE_BAY, its checks in order (R143). -/
def State.isolateBay (b : Nat) (s : State) : Answer :=
  if !s.working then s.answer .wrongMode
  else if !s.inTable b then s.answer .invalidArgument
  else if s.bayIs b (· == .isolated) then s.answer .already
  else if !s.bayIs b (fun x => x == .locked || x.isFault) then s.answer .wrongState
  else if (s.request b).isSome then (s.queueIsolation b).answer .accepted
  else if pendingLimit ≤ s.doors.requests.length then s.answer .busy
  else if s.param .isolationLimit < s.isolatedCount + s.doors.requests.length + 1 then
    s.answer .isolationLimit
  else (s.queueIsolation b).answer .accepted

/-- ISOLATE_BAY (R143). -/
def execIsolateBay (r : Req) (bay : Nat) (s : State) : Outcome :=
  .next (s.request_ r .isolateBay (State.isolateBay bay))

/-- The bay is proven fit to return: node LIVE, class PROVEN_LOCKED, and none of the contacts `bad`
active in its last good reply (R122, R148). -/
def Bay.provenFit (bad : NodeReply → Bool) (y : Bay) : Bool :=
  !y.lost && decide (y.cls = .provenLocked) &&
    match y.lastReply with
    | some (r, _) => !bad r
    | none => false

/-- The decision of DEISOLATE_BAY, its checks in order (R148). -/
def State.deisolateBay (b : Nat) (s : State) : Answer :=
  if s.mode = .startup ∨ s.mode = .configFault then s.answer .wrongMode
  else if !s.inTable b then s.answer .invalidArgument
  else if !s.bayIs b (· == .isolated) then s.answer .wrongState
  else if !(s.bay b).provenFit (·.iso) then s.answer .notProven
  else (s.enterState b .locked).answer .done

/-- DEISOLATE_BAY (R148). -/
def execDeisolateBay (r : Req) (bay : Nat) (s : State) : Outcome :=
  .next (s.request_ r .deisolateBay (State.deisolateBay bay))

/-! ### RESTORE_BAY and REARM (R122, R130) -/

/-- The decision of RESTORE_BAY, its checks in order (R122). -/
def State.restoreBay (b : Nat) (s : State) : Answer :=
  if s.mode = .startup then s.answer .wrongMode
  else if !s.inTable b then s.answer .invalidArgument
  else if !s.bayIs b (· == .released) then s.answer .wrongState
  else if !(s.bay b).provenFit (·.releases) then s.answer .notProven
  else (s.restore b).answer .done

/-- RESTORE_BAY (R122). -/
def execRestoreBay (r : Req) (bay : Nat) (s : State) : Outcome :=
  .next (s.request_ r .restoreBay (State.restoreBay bay))

/-- The decision of REARM, its checks in order (R130). -/
def State.rearmRequest (s : State) : Answer :=
  if s.mode ≠ .emergency then s.answer .wrongMode
  else if !s.noCause then s.answer .causesActive
  else if s.busy.isSome then s.answer .busy
  else s.rearm.answer .done

/-- REARM (R130 to R133). -/
def execRearm (r : Req) (s : State) : Outcome :=
  .next (s.request_ r .rearm State.rearmRequest)

end Sys2Proof.Machine
end

