-- ==== Sys2Proof/Machine/Inputs.lean ====
section
/-!
DEFINITION. The events of the input lines (00_scope.md section 2.2, R43): the beams and the berth
timers that run on them, EVAC, KEY, the strap lines, and the readbacks with the output fault. A line
keeps its level without supply.
-/
namespace Sys2Proof.Machine
open Sys2Proof

/-- A change of the input lines: the levels are kept whether or not the supply is applied, and a
powered part acts on the change. -/
def State.lineEvent (f : Lines → Lines) (act : State → State) (s : State) : State :=
  State.event act { s with lines := f s.lines }

/-! ### Beams (R28, R29, R37 to R41, R43 to R45, R48) -/

/-- The pattern with one beam at a reading. -/
def setBeam (i : Nat) (blocked : Bool) (p : BitVec 16) : BitVec 16 :=
  if blocked then p ||| (1#16 <<< i) else p &&& ~~~(1#16 <<< i)

/-- The DEPART_CLEAR count at a change of the pattern: it starts when the last blocked beam clears and
stops while any reads blocked (R40, R41). -/
def State.countClear (s : State) : State :=
  { s with berth := { s.berth with
    clearFrom := match s.berth.phase with
      | .departing | .occupiedUnknown => if s.beamsClear then some s.now else none
      | _ => none } }

/-- A coherent live pattern ends BEAM_INCOHERENT (R48). -/
def State.settleIncoherent (s : State) : State :=
  if coherent s.lines.beams then s.clear .beamIncoherent none else s

/-- What a change of the pattern does by phase: arrival, departure, retirement or movement (R28, R29,
R37 to R40, R77). `counting` tells that the DEPART_CLEAR count was running. -/
def State.beamPhase (i : Nat) (blocked counting : Bool) (s : State) : State :=
  match s.berth.phase with
  | .vacant => if i = 0 ∧ blocked then s.arrive else s
  | .arriving => if i = 0 ∧ blocked = false then s.setPhase .departing else s
  | .departing => if i = 0 ∧ blocked ∧ counting then s.retire.enterVacant.arrive else s
  | .occupiedUnknown => s
  | .aligned | .misaligned | .opening | .opened | .closing | .closedProving | .secureBerthed =>
    s.movement

/-- A change of the beam pattern, outside STARTUP. BEAM_INCOHERENT ends before anything is raised (DESIGN
CHOICE, assumption 72). -/
def State.patternChanged (i : Nat) (blocked : Bool) (s : State) : State :=
  if s.inStartup then s
  else
    s.noteMovement.settleIncoherent.countClear.beamPhase i blocked s.berth.clearFrom.isSome

/-- BEAM_CHANGE: a beam changes its reading (R43). A reading that stands is no change. -/
def execBeamChange (beam : Nat) (blocked : Bool) (s : State) : Outcome :=
  if s.lines.beams.getLsbD beam = blocked ∨ 16 ≤ beam then .next (s.event id)
  else .next (s.lineEvent (fun l => { l with beams := setBeam beam blocked l.beams })
    (State.patternChanged beam blocked))

/-- The stability count has reached STOP_STABLE, and no beam stop of it has been taken (R45). -/
def State.beamStopDue (s : State) : Bool :=
  s.elapsedFrom s.berth.stableFrom (s.param .stopStable) && !s.berth.stopTaken

/-- The stability count reaches STOP_STABLE: a beam stop is taken, once (R45, R46). -/
def State.beamStop (s : State) : State :=
  if s.beamStopDue then
    { s with berth := { s.berth with stopTaken := true } }.takeStop
  else s

/-- BEAM_STOP (R45). -/
def execBeamStop (s : State) : Outcome := .next (s.event State.beamStop)

/-- The DEPART_CLEAR count has completed in a phase (R40, R41). -/
def State.clearDue (p : Phase) (s : State) : Bool :=
  decide (s.berth.phase = p) && s.elapsedFrom s.berth.clearFrom (s.param .departClear)

/-- The DEPART_CLEAR count completes in a phase: the berth retires and the platform is VACANT. -/
def State.clearComplete (p : Phase) (s : State) : State :=
  if s.clearDue p then s.retire.enterVacant else s

/-- DEPART_CLEAR (R40). -/
def execDepartClear (s : State) : Outcome := .next (s.event (State.clearComplete .departing))

/-- OCCUPIED_CLEAR (R41). -/
def execOccupiedClear (s : State) : Outcome :=
  .next (s.event (State.clearComplete .occupiedUnknown))

/-- The DWELL notice to the Train Link, if up, and the Station Link, each by its mask (R42). -/
def State.dwellNotice (x : NoticeDetail) (s : State) : State :=
  { s with send := (s.send.noticeTo s.env .train x).noticeTo s.env .station x }

/-- The dwell timer of the berth has run out (R42). -/
def State.dwellDue (s : State) : Bool :=
  match s.berth.record with
  | none => false
  | some r => s.elapsedFrom r.dwellFrom (r.dwell.getD 0 * 1000)

/-- The dwell timer runs out (R42). -/
def State.dwellExpiry (s : State) : State :=
  if s.dwellDue then
    (s.setRecord fun x => { x with dwellFrom := none }).dwellNotice
      (.dwell (s.berth.record.bind (·.trainId)))
  else s

/-- DWELL_EXPIRY (R42). -/
def execDwellExpiry (s : State) : Outcome := .next (s.event State.dwellExpiry)

/-! ### EVAC, KEY and the strap lines -/

/-- EVAC_ASSERTED: the line becomes asserted; in STARTUP it is read at the load (R123). -/
def execEvacAsserted (s : State) : Outcome :=
  if s.lines.evac then .next (s.event id)
  else .next (s.lineEvent (fun l => { l with evac := true })
    fun t => if t.inStartup then t else t.evacuate)

/-- EVAC_RELEASED: the line is released (R123). -/
def execEvacReleased (s : State) : Outcome :=
  if s.lines.evac then
    .next (s.lineEvent (fun l => { l with evac := false })
      fun t => if t.inStartup then t else t.endEvacuation)
  else .next (s.event id)

/-- KEY_CHANGE: the authority level follows the line (R153). -/
def execKeyChange (asserted : Bool) (s : State) : Outcome :=
  .next (s.lineEvent (fun l => { l with key := asserted })
    fun t => { t with link := { t.link with supervisor := asserted } })

/-- ADDR_CHANGE: a change of the strap lines has no effect until the next power-on or restart
(R151). -/
def execAddrChange (addr : Nat) (s : State) : Outcome :=
  .next (s.lineEvent (fun l => { l with addr := addr }) id)

/-! ### The readbacks (R115, R116) -/

/-- One readback at a level. -/
def setReadback (c : Channel) (v : Bool) (l : Lines) : Lines :=
  match c with
  | .a => { l with readbackA := v }
  | .b => { l with readbackB := v }

/-- READBACK_CHANGE: the disagreement timer of the channel follows (R115). -/
def execReadbackChange (channel : Channel) (energised : Bool) (s : State) : Outcome :=
  .next (s.lineEvent (setReadback channel energised) id)

/-- The disagreement timer of a channel. -/
def SecureState.timer (x : SecureState) : Channel → Option Millis
  | .a => x.disagreeA
  | .b => x.disagreeB

/-- The latch names the channel. -/
def SecureState.names (x : SecureState) : Channel → Bool
  | .a => x.latchA
  | .b => x.latchB

/-- The channel joins the latch. -/
def SecureState.latch (c : Channel) (x : SecureState) : SecureState :=
  match c with
  | .a => { x with latchA := true }
  | .b => { x with latchB := true }

/-- The alarm detail of a latched channel: its drive and readback at that moment (R116), the drive as it was
before the latch de-energised both (DESIGN CHOICE, assumption 67). -/
def State.latchDetail (c : Channel) (s : State) : AlarmDetail :=
  match c with
  | .a => .channel .a s.secure.driveA s.lines.readbackA
  | .b => .channel .b s.secure.driveB s.lines.readbackB

/-- The disagreement timer of a channel not yet named has reached 100 ms (R116). -/
def State.outputFaultDue (c : Channel) (s : State) : Bool :=
  s.elapsedFrom (s.secure.timer c) disagreeMs && !s.secure.names c

/-- The other channel. -/
def otherChannel : Channel → Channel
  | .a => .b
  | .b => .a

/-- The latch names a channel and OUTPUT_FAULT is raised with its drive and readback (R116). -/
def State.latchFault (c : Channel) (s : State) : State :=
  { s with secure := s.secure.latch c }.raise .outputFault none (some (s.latchDetail c))

/-- The disagreement timer of a channel reaches 100 ms: the latch names it and OUTPUT_FAULT is raised;
where the timer of the other channel has reached the limit at the same moment, the latch names both and
the alarm is raised again. A channel already named changes nothing (R116; assumption 59). -/
def State.outputFault (c : Channel) (s : State) : State :=
  if s.outputFaultDue c then
    let s1 := s.latchFault c
    if s.outputFaultDue (otherChannel c) then s1.latchFault (otherChannel c) else s1
  else s

/-- OUTPUT_FAULT (R116). -/
def execOutputFault (channel : Channel) (s : State) : Outcome :=
  .next (s.event (State.outputFault channel))

end Sys2Proof.Machine
end

