-- ==== Sys2Proof/Machine/Reads.lean ====
section
/-!
DEFINITION. The station's reads (R154), its three requests to the Alarm List (R168), and
SET_NOTICE_MASK (R159).
-/
namespace Sys2Proof.Machine
open Sys2Proof

/-! ### STATUS_READ -/

/-- A time shown in platform seconds (R1, R96). -/
def inSeconds (t : Millis) : Seconds := t / 1000

/-- What STATUS_READ shows of one bay (R82, R96, R121). -/
def State.baySummary (s : State) (b : Nat) : BaySummary where
  bay := b
  state := (s.bay b).state
  cls := s.mapClass b
  cycled := (s.bay b).cycled
  obstructed := (s.bay b).obstructed
  gap := (s.bay b).gap
  rh := (s.bay b).lastReply.map (·.1.rh)
  pk := (s.bay b).lastReply.map (·.1.pk)

/-- The berth record as STATUS_READ shows it (R26, R43). -/
def Berth.view (r : Berth) : BerthView :=
  ⟨r.trainId, r.identifiedId, r.profile, r.orientation, r.service, r.approachSeq, r.announced,
   r.identified, r.confirmed, r.disputed, r.align, r.permit, r.dwell, r.openComplete, r.opened⟩

/-- The Secure Evaluator as STATUS_READ shows it (R111, R115). -/
def State.secureView (s : State) : SecureView where
  asserted := s.secure.asserted
  reasons := s.secure.reasons
  changed := s.secure.changed
  driveA := s.secure.driveA
  driveB := s.secure.driveB
  readbackA := s.lines.readbackA
  readbackB := s.lines.readbackB
  timerA := s.secure.disagreeA.map inSeconds
  timerB := s.secure.disagreeB.map inSeconds
  latchA := s.secure.latchA
  latchB := s.secure.latchB

/-- The time left to a pending isolation request, in whole seconds rounded down (R142, R146; DESIGN
CHOICE, assumption 54). -/
def State.secondsLeft (s : State) (q : IsolationRequest) : Seconds :=
  inSeconds (q.since + s.param .concurrenceWindow * 1000 - s.now)

/-- The time since the last valid Train Link frame, in whole seconds rounded down, and absent before the
first (R139; DESIGN CHOICE, assumption 54). -/
def State.sinceTrainFrame (s : State) : Option Seconds :=
  s.link.lastTrainFrame.map fun t => inSeconds (s.now - t)

/-- The isolated bays with their manner (R142). -/
def State.isolatedBays (s : State) : List (Nat × Isolation) :=
  (s.tableBays.filter fun b => s.bayIs b (· == .isolated)).map fun b => (b, (s.bay b).isolation)

/-- Everything the chapters say STATUS_READ shows, times in platform seconds (R154, R1). -/
def State.statusView (s : State) : StatusView where
  mode := s.mode
  phase := s.berth.phase
  berth := s.berth.record.map Berth.view
  summary := s.berth.summary
  heldOffset := s.berth.heldOffset
  pattern := s.lines.beams
  operation := s.doors.operation
  bays := s.tableBays.map s.baySummary
  intrusion := s.sense.intrusion
  intrusionBay := s.sense.lastBay
  secure := s.secureView
  causes := s.causes
  released := s.emer.released
  context := s.emer.context
  watchdogRunning := s.link.watchdog.isSome
  trainUp := s.link.trainUp
  sinceTrainFrame := s.sinceTrainFrame
  requests := s.doors.requests.map fun q => (q.bay, q.time, s.secondsLeft q)
  isolated := s.isolatedBays
  outboxLength := s.send.outbox.length
  lost := s.send.lost
  overflow := s.alarms.overflow
  writeCount := s.store.writeCount
  writing := s.isWriting
  hasWorking := s.store.working.isSome

/-- STATUS_READ (R154). -/
def execStatusRead (r : Req) (s : State) : Outcome :=
  .next (s.request_ r .statusRead fun t => t.answerWith (.status t.statusView))

/-! ### BAY_READ and QUEUE_READ -/

/-- What BAY_READ returns of a bay, times in platform seconds (R61, R87, R96, section 5.5). The time since
each reading last changed is in whole seconds rounded down, beside the moment of that change (R96; DESIGN
CHOICE, assumption 54). -/
def State.bayView (s : State) (b : Nat) : BayView :=
  let y := s.bay b
  { number := b
    state := y.state
    cls := s.mapClass b
    retry := y.retry
    isolation := y.isolation
    evacOpened := y.evacOpened
    cycled := y.cycled
    obstructed := y.obstructed
    lost := y.lost
    missed := y.missed
    lastReply := y.lastReply
    code := y.lastReply.map (·.1.code)
    proving := y.cls
    discrepancyRuns := y.discrepancyFrom.isSome
    recoveryRuns := y.recoveryFrom.isSome
    position := y.step.map (·.position)
    step := y.progress
    stepResult := y.step.bind (·.last)
    presence := y.presence
    presenceSince := inSeconds y.presenceSince
    presenceFor := inSeconds (s.now - y.presenceSince)
    stuck := y.stuck
    zone := y.zone
    zoneSince := inSeconds y.zoneSince
    zoneFor := inSeconds (s.now - y.zoneSince)
    gap := y.gap
    gapStarted := y.gapFrom.map inSeconds }

/-- BAY_READ (R61). -/
def execBayRead (r : Req) (bay : Nat) (s : State) : Outcome :=
  .next (s.request_ r .bayRead fun t =>
    if t.inTable bay then t.answerWith (.bay (t.bayView bay)) else t.answer .invalidArgument)

/-- What QUEUE_READ returns (R21). -/
def State.queueView (s : State) : QueueView :=
  ⟨s.berth.queue, s.berth.expected, s.berth.syncLost, s.berth.lastBound,
   s.content.param .queuePolicy⟩

/-- QUEUE_READ (R21). -/
def execQueueRead (r : Req) (s : State) : Outcome :=
  .next (s.request_ r .queueRead fun t => t.answerWith (.queue t.queueView))

/-! ### The Alarm List (R168) -/

/-- What ALARM_READ returns from a position: at most six entries (R168). -/
def State.alarmView (s : State) (position : Nat) : AlarmView :=
  ⟨s.alarms.entries.length, s.alarms.unacknowledged, s.alarms.overflow,
   (s.alarms.entries.drop (position - 1)).take 6⟩

/-- ALARM_READ (R168). -/
def execAlarmRead (r : Req) (position : Nat) (s : State) : Outcome :=
  .next (s.request_ r .alarmRead fun t =>
    if 1 ≤ position ∧ position ≤ alarmLimit then t.answerWith (.alarms (t.alarmView position))
    else t.answer .invalidArgument)

/-- The list with its oldest unacknowledged entry acknowledged, and that entry (R168). -/
def ackFirst : List AlarmEntry → Option (List AlarmEntry × AlarmEntry)
  | [] => none
  | e :: es =>
    if e.acked then (ackFirst es).map fun x => (e :: x.1, x.2)
    else some ({ e with acked := true } :: es, { e with acked := true })

/-- An acknowledged TRACK_INTRUSION ends a FROZEN intrusion; a VACANT platform is watched afresh
(R108). -/
def State.intrusionAcked (s : State) : State :=
  if s.sense.intrusion = .frozen then
    let s1 := { s with sense := { s.sense with intrusion := .clear } }.clear .trackIntrusion none
    if s1.berth.phase = .vacant then s1.startWatch else s1
  else s

/-- The decision of ACK_NEXT (R168). -/
def State.ackNext (s : State) : Answer :=
  match ackFirst s.alarms.entries with
  | none => s.answer .notFound
  | some (es, e) =>
    let s1 := { s with alarms := { s.alarms with entries := es } }
    (if e.kind = .trackIntrusion then s1.intrusionAcked else s1).answerWith (.entry e)

/-- ACK_NEXT (R168). -/
def execAckNext (r : Req) (s : State) : Outcome :=
  .next (s.request_ r .ackNext State.ackNext)

/-- An entry that is acknowledged and CLEARED (R168). -/
def AlarmEntry.purgeable (e : AlarmEntry) : Bool := e.acked && !e.active

/-- The list after a purge (R167, R168). -/
def AlarmState.purge (a : AlarmState) : AlarmState :=
  let es := a.entries.filter fun e => !e.purgeable
  ⟨es, a.overflow && decide (alarmLimit ≤ es.length)⟩

/-- A FROZEN intrusion without an unacknowledged entry is raised again after a purge (R108). -/
def State.reraiseIntrusion (s : State) : State :=
  if s.sense.intrusion = .frozen &&
      !(s.alarms.entries.any fun e => e.standsFor .trackIntrusion none) then
    s.raise .trackIntrusion none (s.sense.lastBay.map AlarmDetail.bay)
  else s

/-- The decision of PURGE_ALARMS (R168). -/
def State.purgeAlarms (s : State) : Answer :=
  ({ s with alarms := s.alarms.purge }.reraiseIntrusion).answerWith
    (.purged (s.alarms.entries.filter AlarmEntry.purgeable).length)

/-- PURGE_ALARMS (R168). -/
def execPurgeAlarms (r : Req) (s : State) : Outcome :=
  .next (s.request_ r .purgeAlarms State.purgeAlarms)

/-! ### SET_NOTICE_MASK (R159) -/

/-- The class set a byte codes, bit 0 SECURE to bit 6 GAP (R162); a byte with bit 7 set holds a member
outside the seven classes. -/
def ClassSet.ofByte (b : Byte) : Option ClassSet :=
  if b.getLsbD 7 then none
  else some ⟨b.getLsbD 0, b.getLsbD 1, b.getLsbD 2, b.getLsbD 3, b.getLsbD 4, b.getLsbD 5,
    b.getLsbD 6⟩

/-- The interval of a class after its mask changed from admitting it as `was` to `now`: removal loses
the pending notice and idles the interval (R159, R160). -/
def Fold.masked (was now : Bool) (f : Fold) : Fold := if was && !now then .idle else f

/-- A port with a new mask (R159). -/
def PortState.withMask (m : ClassSet) (p : PortState) : PortState :=
  { p with
    mask := m
    folds :=
      { phase := p.folds.phase.masked p.mask.phase m.phase
        operation := p.folds.operation.masked p.mask.operation m.operation
        alarm := p.folds.alarm.masked p.mask.alarm m.alarm
        dwell := p.folds.dwell.masked p.mask.dwell m.dwell
        gap := p.folds.gap.masked p.mask.gap m.gap } }

/-- The decision of SET_NOTICE_MASK (R159). -/
def State.setNoticeMask (port : Coded Port) (classes : Byte) (s : State) : Answer :=
  match port, ClassSet.ofByte classes with
  | .named p, some m => { s with send := s.send.setPort p (PortState.withMask m) }.answer .done
  | _, _ => s.answer .invalidArgument

/-- SET_NOTICE_MASK (R159). -/
def execSetNoticeMask (r : Req) (port : Coded Port) (classes : Byte) (s : State) : Outcome :=
  .next (s.request_ r .setNoticeMask (State.setNoticeMask port classes))

end Sys2Proof.Machine
end

