-- ==== Sys2Proof/Machine/Signalling.lean ====
section
/-!
DEFINITION. The requests of the signalling master (R154): HEARTBEAT, the approach queue (R20 to R25),
ISOLATION_CONCURRENCE (R145) and STATUS_REQUEST.
-/
namespace Sys2Proof.Machine
open Sys2Proof

/-! ### HEARTBEAT (R135 to R137) -/

/-- The watchdog runs from its full value, SIG_LINK_LOST ends, and LOCAL becomes NORMAL. -/
def State.heartbeat (s : State) : State :=
  let s1 := { s with link := { s.link with
    watchdog := some (s.now + s.param .sigWatchdog) } }.clear .sigLinkLost none
  if s1.mode = .localMode then s1.setMode .normal else s1

/-- HEARTBEAT (R135). -/
def execHeartbeat (r : Req) (s : State) : Outcome :=
  .next (s.request_ r .heartbeat fun t => t.heartbeat.answer .done)

/-! ### The approach queue (R20 to R25) -/

/-- APPEND_APPROACH is taken in NORMAL, and in EMERGENCY while the saved mode is NORMAL (R22). -/
def State.takesAppends (s : State) : Bool :=
  match s.mode with
  | .normal => true
  | .emergency =>
    match s.emer.context with
    | some c => decide (c.savedMode = .normal)
    | none => false
  | .startup | .configFault | .localMode | .commissioning => false

/-- The dwell a record carries: clamped to 5..120 s where present (R20). -/
def clampDwell (d : Option Seconds) : Option Seconds := d.map fun x => max 5 (min 120 x)

/-- The distance of sequence number `a` from `h`, modulo 256 (R21, R23). -/
def seqFrom (h a : Nat) : Nat := (a + 256 - h % 256) % 256

/-- Number `n` comes after the tail of the queue (R23). -/
def comesAfterTail (q : List Approach) (n : Nat) : Bool :=
  match q.head?, q.getLast? with
  | some h, some t => decide (seqFrom h.seq t.seq < seqFrom h.seq n)
  | _, _ => true

/-- The approach record of an append whose named fields are good (R20). -/
def State.approachOf (f : AppendFields) (s : State) : Option Approach :=
  match f.orientation, f.service with
  | .named o, .named k =>
    if s.profileKnown f.profile then
      some ⟨f.seq, f.trainId, f.profile, o, k, clampDwell f.dwell⟩
    else none
  | _, _ => none

/-- An append in sequence joins at the tail, if its number comes after the tail (R23). -/
def State.joinQueue (a : Approach) (clamped : Bool) (s : State) : Answer :=
  if comesAfterTail s.berth.queue a.seq then
    ({ s with berth := { s.berth with
      queue := s.berth.queue ++ [a], expected := some ((a.seq + 1) % 256) } }.sendStatus).answer
        (if clamped then .clamped else .done)
  else s.answer .seqError

/-- SYNC_LOST is set by a number out of sequence under STRICT (R23). -/
def State.loseSync (s : State) : State :=
  { s with berth := { s.berth with syncLost := true } }.sendStatus

/-- An append that passed the checks of R22 is decided by its number (R23). -/
def State.sequenceAppend (a : Approach) (clamped : Bool) (s : State) : Answer :=
  match s.berth.expected with
  | none => s.joinQueue a clamped
  | some e =>
    if e = a.seq then s.joinQueue a clamped
    else if s.content.param .queuePolicy = 0 then s.loseSync.answer .seqError
    else (s.raise .queueGap none (some (.sequence e a.seq))).joinQueue a clamped

/-- The decision of APPEND_APPROACH (R22). -/
def State.appendApproach (f : AppendFields) (s : State) : Answer :=
  if !s.takesAppends then s.answer .wrongMode
  else
    match s.approachOf f with
    | none => s.answer .invalidArgument
    | some a =>
      if s.berth.syncLost then s.answer .seqError
      else if queueLimit ≤ s.berth.queue.length then s.answer .queueFull
      else if s.berth.queue.any fun x => x.seq == a.seq then s.answer .duplicate
      else s.sequenceAppend a (a.dwell != f.dwell)

/-- APPEND_APPROACH (R20 to R23). -/
def execAppendApproach (r : Req) (f : AppendFields) (s : State) : Outcome :=
  .next (s.request_ r .appendApproach (State.appendApproach f))

/-- The decision of WITHDRAW_APPROACH (R24). -/
def State.withdrawApproach (n : Nat) (s : State) : Answer :=
  if !s.working then s.answer .wrongMode
  else if s.berth.queue.any fun x => x.seq == n then
    ({ s with berth := { s.berth with
      queue := s.berth.queue.filter fun x => x.seq != n } }.sendStatus).answer .done
  else s.answer .notFound

/-- WITHDRAW_APPROACH (R24). -/
def execWithdrawApproach (r : Req) (seq : Nat) (s : State) : Outcome :=
  .next (s.request_ r .withdrawApproach (State.withdrawApproach seq))

/-- The queue state a RESYNC_QUEUE leaves (R25); a change of queue length or SYNC_LOST is told. -/
def State.resync (expected : Option Nat) (empty : Bool) (s : State) : State :=
  let s1 := { s with berth := { s.berth with
    queue := if empty then [] else s.berth.queue, expected := expected, syncLost := false } }
  if s.berth.syncLost || (empty && !s.berth.queue.isEmpty) then s1.sendStatus else s1

/-- The decision of RESYNC_QUEUE (R25). -/
def State.resyncQueue (expected : Option Nat) (clear : Coded Choice) (s : State) : Answer :=
  if !s.working then s.answer .wrongMode
  else
    match clear with
    | .outside => s.answer .invalidArgument
    | .named c => (s.resync expected (decide (c = .yes))).answer .done

/-- RESYNC_QUEUE (R25). -/
def execResyncQueue (r : Req) (expected : Option Nat) (clear : Coded Choice) (s : State) :
    Outcome :=
  .next (s.request_ r .resyncQueue (State.resyncQueue expected clear))

/-! ### ISOLATION_CONCURRENCE and STATUS_REQUEST -/

/-- The decision of ISOLATION_CONCURRENCE (R145). -/
def State.concur (b : Nat) (s : State) : Answer :=
  if !s.working then s.answer .wrongMode
  else if !s.inTable b then s.answer .invalidArgument
  else if s.bayIs b (· == .isolated) then s.answer .already
  else if (s.request b).isNone then s.answer .notFound
  else (s.isolate b .byConcurrence).answer .done

/-- ISOLATION_CONCURRENCE (R145). -/
def execIsolationConcurrence (r : Req) (bay : Nat) (s : State) : Outcome :=
  .next (s.request_ r .isolationConcurrence (State.concur bay))

/-- STATUS_REQUEST: the platform status as it stands is the result detail (R154, R156). -/
def execStatusRequest (r : Req) (s : State) : Outcome :=
  .next (s.request_ r .statusRequest fun t => t.answerWith (.platformStatus t.platformStatus))

end Sys2Proof.Machine
end

