-- ==== Sys2Proof/Machine/Timers.lean ====
section
/-!
DEFINITION. The expiries (95_what_each_step_holds.md): the timers of a bay (chapters 4 and 5), the
runs of the sensors (chapter 6), the link watches, the isolation window (chapter 9) and the notice
intervals (R160). An expiry that is not due changes nothing.
-/
namespace Sys2Proof.Machine
open Sys2Proof

/-! ### Timers of the bay states (R62, R68, R71 to R74) -/

/-- The timer of bay `b`'s present state has run for a duration. -/
def State.bayElapsed (b : Nat) (d : Millis) (s : State) : Bool :=
  s.elapsedFrom (s.bay b).timer d

/-- OPEN_TIMEOUT runs: OPENING, or REOPENING (FULL) before REACHED_OPEN (R62, R73). -/
def BayState.runsOpenTimeout : BayState → Bool
  | .opening | .reopening .full false => true
  | _ => false

/-- CLOSE_TIMEOUT runs: CLOSING (R62). -/
def BayState.runsCloseTimeout : BayState → Bool
  | .closing _ => true
  | _ => false

/-- REOPEN_HOLD runs (R62, R73). -/
def BayState.runsReopenHold : BayState → Bool
  | .reopening _ true => true
  | _ => false

/-- OPEN_TIMEOUT of bay `b` is over. -/
def State.openTimeoutDue (b : Nat) (s : State) : Bool :=
  s.bayIs b BayState.runsOpenTimeout && s.bayElapsed b (s.param .openTimeout)

/-- OPEN_TIMEOUT expires: FAULT(OPEN_TIMEOUT) and its alarm (R68, R73). -/
def State.openTimeout (b : Nat) (s : State) : State :=
  if s.openTimeoutDue b then s.faultBay b .openTimeout .openTimeout none else s

/-- OPEN_TIMEOUT (R68, R73). -/
def execOpenTimeout (bay : Nat) (s : State) : Outcome := .next (s.event (State.openTimeout bay))

/-- CLOSE_TIMEOUT of bay `b` is over. -/
def State.closeTimeoutDue (b : Nat) (s : State) : Bool :=
  s.bayIs b BayState.runsCloseTimeout && s.bayElapsed b (s.param .closeTimeout)

/-- CLOSE_TIMEOUT expires: FAULT(CLOSE_TIMEOUT) and its alarm (R72). -/
def State.closeTimeout (b : Nat) (s : State) : State :=
  if s.closeTimeoutDue b then s.faultBay b .closeTimeout .closeTimeout none else s

/-- CLOSE_TIMEOUT (R72). -/
def execCloseTimeout (bay : Nat) (s : State) : Outcome := .next (s.event (State.closeTimeout bay))

/-- DOORWAY_HOLD of bay `b` is over. -/
def State.doorwayHoldDue (b : Nat) (s : State) : Bool :=
  s.bayIs b (· == .closeWait) && s.bayElapsed b (s.param .doorwayHold)

/-- DOORWAY_HOLD expires: CLOSING (NUDGE) (R71). -/
def State.doorwayHoldExpiry (b : Nat) (s : State) : State :=
  if s.doorwayHoldDue b then s.enterState b (.closing .nudge) else s

/-- DOORWAY_HOLD_EXPIRY (R71). -/
def execDoorwayHoldExpiry (bay : Nat) (s : State) : Outcome :=
  .next (s.event (State.doorwayHoldExpiry bay))

/-- REOPEN_HOLD is over: below RETRY_LIMIT the bay recloses by the rules of the close that is taking
it, with its count one higher; at the limit it is HELD, its alarm raised after the entry (R74; DESIGN CHOICE,
assumption 72). -/
def State.reclose (b : Nat) (s : State) : State :=
  if (s.bay b).retry < s.param .retryLimit then
    (s.setBay b fun y => { y with retry := y.retry + 1 }).startClosing b (s.bay b).closeRule
  else (s.enterState b (.held .obstructionLimit)).raise .obstructionHeld (some b) none

/-- REOPEN_HOLD of bay `b` is over. -/
def State.reopenHoldDue (b : Nat) (s : State) : Bool :=
  s.bayIs b BayState.runsReopenHold && s.bayElapsed b (s.param .reopenHold)

/-- REOPEN_HOLD expires (R74). -/
def State.reopenHoldExpiry (b : Nat) (s : State) : State :=
  if s.reopenHoldDue b then s.reclose b else s

/-- REOPEN_HOLD_EXPIRY (R74). -/
def execReopenHoldExpiry (bay : Nat) (s : State) : Outcome :=
  .next (s.event (State.reopenHoldExpiry bay))

/-! ### Timers of the Door Bus Master (R90, R92, R95) -/

/-- A persistent discrepancy: PROVING_DISCREPANT with the code, and FAULT(DISCREPANT) unless the bay is
RELEASED or ISOLATED (R90). A bay that has no state yet, in STARTUP, keeps none (DESIGN CHOICE,
assumption 19). -/
def State.discrepancy (b : Nat) (s : State) : State :=
  let s1 := (s.setBay b fun y => { y with discrepancyTaken := true }).raise .provingDiscrepant
    (some b) (some (.code (s.bay b).code))
  if s1.bayIs b BayState.canFail then s1.enterState b (.fault .discrepant) else s1

/-- The discrepancy timer of bay `b` has reached DISCREPANCY_PERSIST, once a run, in whatever state the
bay is, STARTUP included (R90; once a run: DESIGN CHOICE, assumption 19). -/
def State.discrepancyDue (b : Nat) (s : State) : Bool :=
  !(s.bay b).discrepancyTaken &&
    s.elapsedFrom (s.bay b).discrepancyFrom (s.param .discrepancyPersist)

/-- The discrepancy timer reaches DISCREPANCY_PERSIST (R90). -/
def State.discrepancyTimerExpiry (b : Nat) (s : State) : State :=
  if s.discrepancyDue b then s.discrepancy b else s

/-- DISCREPANCY_TIMER_EXPIRY (R90). -/
def execDiscrepancyTimerExpiry (bay : Nat) (s : State) : Outcome :=
  .next (s.event (State.discrepancyTimerExpiry bay))

/-- The recovery timer of bay `b` has reached DISCREPANCY_PERSIST. -/
def State.recoveryDue (b : Nat) (s : State) : Bool :=
  s.bayIs b BayState.isFault && s.elapsedFrom (s.bay b).recoveryFrom (s.param .discrepancyPersist)

/-- The recovery timer reaches DISCREPANCY_PERSIST: the bay returns from FAULT to LOCKED (R92). -/
def State.recoveryTimerExpiry (b : Nat) (s : State) : State :=
  if s.recoveryDue b then s.enterState b .locked else s

/-- RECOVERY_TIMER_EXPIRY (R92). -/
def execRecoveryTimerExpiry (bay : Nat) (s : State) : Outcome :=
  .next (s.event (State.recoveryTimerExpiry bay))

/-- The time limit of a commissioning step (R94). -/
def State.stepLimit (s : State) : Step → Millis
  | .unlock | .opening => s.param .openTimeout
  | .closing | .locking => s.param .closeTimeout

/-- The time limit of the step in progress of bay `b` is over. -/
def State.stepLimitDue (b : Nat) (s : State) : Bool :=
  match (s.bay b).step with
  | some ⟨_, some (st, since), _⟩ => s.elapsed since (s.stepLimit st)
  | _ => false

/-- The time limit of the step in progress expires: the step fails (R95). -/
def State.stepTimeLimitExpiry (b : Nat) (s : State) : State :=
  if s.stepLimitDue b then s.endStep b .failed else s

/-- STEP_TIME_LIMIT_EXPIRY (R95). -/
def execStepTimeLimitExpiry (bay : Nat) (s : State) : Outcome :=
  .next (s.event (State.stepTimeLimitExpiry bay))

/-! ### Runs of the sensors (R99 to R108) -/

/-- The presence of bay `b` has been active for 60 s, and its sensor is not yet stuck. -/
def State.presenceStuckDue (b : Nat) (s : State) : Bool :=
  s.inTable b && (s.bay b).presence && !(s.bay b).stuck && s.elapsed (s.bay b).presenceSince stuckMs

/-- Presence has been active for 60 s: the sensor is stuck, and a bay in CLOSE_WAIT goes to CLOSING
(NUDGE) (R99, R100). -/
def State.presenceStuck (b : Nat) (s : State) : State :=
  if s.presenceStuckDue b then
    let s1 := (s.setBay b fun x => { x with stuck := true }).raise .presenceStuck (some b) none
    if s1.bayIs b (· == .closeWait) then s1.enterState b (.closing .nudge) else s1
  else s

/-- PRESENCE_STUCK (R99). -/
def execPresenceStuck (bay : Nat) (s : State) : Outcome :=
  .next (s.event (State.presenceStuck bay))

/-- The start of the run that decides the check of a bay: the zone "since" time and, while the check
is PENDING, not before the check's start (R102, R103). -/
def Bay.gapRun (y : Bay) : Millis :=
  match y.gap with
  | .pending => max (y.gapFrom.getD 0) y.zoneSince
  | .notRequired | .passed | .failed => y.zoneSince

/-- The clear run of bay `b` is complete while its check is PENDING or FAILED. -/
def State.gapPassDue (b : Nat) (s : State) : Bool :=
  s.inTable b && (s.bay b).gap.isOpen && !(s.bay b).zone &&
    s.elapsed (s.bay b).gapRun (settleMs (s.gapClass b))

/-- The clear run of the settle interval is complete: the check becomes PASSED; from FAILED the alarm
ends and the gap notice is sent again (R102, R103). -/
def State.gapCheckPassed (b : Nat) (s : State) : State :=
  if s.gapPassDue b then
    let s1 := s.setBay b fun x => { x with gap := .passed }
    if (s.bay b).gap = .failed then (s1.clear .gapOccupied (some b)).gapNotice b else s1
  else s

/-- GAP_CHECK_PASSED (R102). -/
def execGapCheckPassed (bay : Nat) (s : State) : Outcome :=
  .next (s.event (State.gapCheckPassed bay))

/-- The occupied run of bay `b` is complete while its check is PENDING. -/
def State.gapFailDue (b : Nat) (s : State) : Bool :=
  s.inTable b && decide ((s.bay b).gap = .pending) && (s.bay b).zone &&
    s.elapsed (s.bay b).gapRun (s.param .gapConfirm)

/-- The occupied run of GAP_CONFIRM is complete: a PENDING check becomes FAILED, with its alarm and
the gap notice (R102, R103). -/
def State.gapCheckFailed (b : Nat) (s : State) : State :=
  if s.gapFailDue b then
    ((s.setBay b fun x => { x with gap := .failed }).raise .gapOccupied (some b) none).gapNotice b
  else s

/-- GAP_CHECK_FAILED (R102). -/
def execGapCheckFailed (bay : Nat) (s : State) : Outcome :=
  .next (s.event (State.gapCheckFailed bay))

/-- The watch start, while intrusion is watched: the phase is VACANT and the state CLEAR or ACTIVE
(R106). -/
def State.watch (s : State) : Option Millis :=
  if s.berth.phase = .vacant ∧ s.sense.intrusion ≠ .frozen then s.sense.watchStart else none

/-- The occupied run of bay `b`'s zone is complete while it is watched, and not yet confirmed. -/
def State.intrusionDue (b : Nat) (s : State) : Bool :=
  match s.watch with
  | none => false
  | some w => s.inTable b && (s.bay b).zone && !(s.bay b).zoneConfirmed &&
      s.elapsed (max w (s.bay b).zoneSince) (s.param .intrusionConfirm)

/-- A watched zone has been occupied for INTRUSION_CONFIRM: the intrusion is ACTIVE, and the alarm
raised once a run (R106). -/
def State.trackIntrusion (b : Nat) (s : State) : State :=
  if s.intrusionDue b then
    let s1 := s.setBay b fun x => { x with zoneConfirmed := true }
    { s1 with sense := { s1.sense with intrusion := .active, lastBay := some b } }.raise
      .trackIntrusion none (some (.bay b))
  else s

/-- TRACK_INTRUSION (R106). -/
def execTrackIntrusion (bay : Nat) (s : State) : Outcome :=
  .next (s.event (State.trackIntrusion bay))

/-- The watched zones: the bays of the table with a gap sensor that are not ISOLATED (R106). -/
def State.watchedBays (s : State) : List Nat :=
  s.tableBays.filter fun b => decide (s.gapClass b ≠ 0) && !s.bayIs b (· == .isolated)

/-- The start of the clear run that ends an intrusion (R107). -/
def State.clearRun (w : Millis) (s : State) : Millis :=
  s.watchedBays.foldl (fun t b => max t (s.bay b).zoneSince) w

/-- The intrusion is ACTIVE and watched, and every watched zone has been clear for 2,000 ms. -/
def State.intrusionClearDue (s : State) : Bool :=
  match s.watch with
  | none => false
  | some w => decide (s.sense.intrusion = .active) &&
      (s.watchedBays.all fun b => !(s.bay b).zone) && s.elapsed (s.clearRun w) intrusionClearMs

/-- Every watched zone has been clear for 2,000 ms: the intrusion is CLEAR, its alarm ends, and the
watch starts afresh (R107). -/
def State.intrusionClear (s : State) : State :=
  if s.intrusionClearDue then
    ({ s with sense := { s.sense with intrusion := .clear } }.clear .trackIntrusion none).startWatch
  else s

/-- INTRUSION_CLEAR (R107). -/
def execIntrusionClear (s : State) : Outcome := .next (s.event State.intrusionClear)

/-! ### The link watches (R136, R139, R140) -/

/-- The mode falls back when the signalling master is silent (R136). -/
def State.signallingLost (s : State) : State :=
  match s.mode with
  | .normal => s.setMode .localMode
  | .emergency =>
    { s with emer := { s.emer with context := s.emer.context.map fun c =>
        if c.savedMode = .normal then { c with savedMode := .localMode } else c } }
  | .startup | .configFault | .localMode | .commissioning => s

/-- The watchdog, or another timer held as the moment it runs out, is over. -/
def State.pastEnd (t : Option Millis) (s : State) : Bool :=
  match t with
  | none => false
  | some x => decide (x ≤ s.now)

/-- The watchdog runs out: SIG_LINK_LOST, and what the mode calls for (R136). -/
def State.sigWatchdogExpiry (s : State) : State :=
  if s.pastEnd s.link.watchdog then
    ({ s with link := { s.link with watchdog := none } }.raise .sigLinkLost none none).signallingLost
  else s

/-- SIG_WATCHDOG_EXPIRY (R135, R136). -/
def execSigWatchdogExpiry (s : State) : Outcome := .next (s.event State.sigWatchdogExpiry)

/-- A SERVED bay is in OPENING, OPEN, CLOSE_WAIT, REOPENING or HELD (R140). -/
def State.servedOpen (s : State) : Bool :=
  s.servedBays.any fun b => s.bayIs b fun x => x.isCloseTarget || x.isHeld

/-- The loss concerns a train with its doorways open (R140). -/
def State.lossConcerns (s : State) : Bool :=
  decide (s.berth.phase = .opening ∨ s.berth.phase = .opened ∨ s.berth.phase = .closing) &&
    s.servedOpen

/-- The bays a LINKLOSS_CLOSE targets: those of disposition CLOSE (R69). -/
def State.linklossTargets (s : State) : List Nat :=
  s.closeTargets.filter fun b => decide ((s.content.bay b).disposition = 1)

/-- LINKLOSS_CLOSE, where a bay is a target (R69, R140). -/
def State.linklossClose (s : State) : State :=
  let ts := s.linklossTargets
  if ts.isEmpty then s else (s.startClose .linklossClose .part ts).phaseForClose

/-- What the loss of the Train Link brings where it concerns a train with its doorways open (R140). -/
def State.trainLost (s : State) : State :=
  if s.lossConcerns then
    let s1 := s.raise .trainLinkLost none none
    if decide (s1.mode = .emergency) || s1.closeBusy then s1 else s1.linklossClose
  else s

/-- The loss timer has run out while the link is UP. -/
def State.trainLossDue (s : State) : Bool := s.link.trainUp && decide (s.link.trainLossAt ≤ s.now)

/-- The loss timer runs out: the link is DOWN, and its pending notices are discarded (R139, R160). -/
def State.trainLossExpiry (s : State) : State :=
  if s.trainLossDue then
    { s with
      link := { s.link with trainUp := false }
      send := s.send.setPort .train fun p => { p with folds := .idle } }.trainLost
  else s

/-- TRAIN_LOSS_EXPIRY (R139). -/
def execTrainLossExpiry (s : State) : Outcome := .next (s.event State.trainLossExpiry)

/-! ### The isolation window (R146) -/

/-- CONCURRENCE_WINDOW has passed since the request of bay `b`. -/
def State.isolationDue (b : Nat) (s : State) : Bool :=
  match s.request b with
  | none => false
  | some q => s.elapsed q.since (s.param .concurrenceWindow * 1000)

/-- CONCURRENCE_WINDOW has passed since the request: it is removed, with ISOLATION_EXPIRED (R146). -/
def State.isolationExpired (b : Nat) (s : State) : State :=
  if s.isolationDue b then (s.dropRequest b).raise .isolationExpired (some b) none else s

/-- ISOLATION_EXPIRED (R146). -/
def execIsolationExpired (bay : Nat) (s : State) : Outcome :=
  .next (s.event (State.isolationExpired bay))

/-! ### The notice intervals (R160) -/

/-- The detail a folded notice carries: that of its latest event, as it would be made now (R160). -/
def State.refresh (x : NoticeDetail) (s : State) : NoticeDetail :=
  match x with
  | .phase _ => .phase s.berth.phase
  | .gap cause _ => .gap cause s.failedGaps
  | .operationChange y => .operationChange ((s.doors.operation.map Operation.summary).getD y)
  | .alarm k b d n a _ _ => .alarm k b d n a s.alarms.unacknowledged s.alarms.overflow
  | y => y

/-- The interval of a class ends at a port: a pending notice is sent with its fold count and the
interval starts again; otherwise it becomes idle (R160). -/
def SendState.intervalEnd (e : SendEnv) (p : Port) (c : NoticeClass) (f : Fold)
    (fresh : NoticeDetail → NoticeDetail) (d : SendState) : SendState :=
  match f.latest with
  | some x =>
    (d.emit p ⟨c, f.count, fresh x⟩).setPort p fun q =>
      { q with folds := q.folds.set c ⟨some (e.now + e.interval), none, 0⟩ }
  | none => d.setPort p fun q => { q with folds := q.folds.set c .idle }

/-- The interval of a class at a port, where it is over. -/
def State.intervalOver (p : Port) (c : NoticeClass) (s : State) : Option Fold :=
  match (s.send.port p).folds.get c with
  | none => none
  | some f => if s.pastEnd f.until_ then some f else none

/-- NOTICE_INTERVAL has passed since the last notice of a class to a port (R160). -/
def State.noticeIntervalEnd (p : Port) (c : NoticeClass) (s : State) : State :=
  match s.intervalOver p c with
  | none => s
  | some f => { s with send := s.send.intervalEnd s.env p c f (fun x => s.refresh x) }

/-- NOTICE_INTERVAL_END (R160). -/
def execNoticeIntervalEnd (port : Port) (cls : NoticeClass) (s : State) : Outcome :=
  .next (s.event (State.noticeIntervalEnd port cls))

end Sys2Proof.Machine
end

