-- ==== Sys2Proof/Machine/Clock.lean ====
section
/-!
DEFINITION. The passing of time (DESIGN CHOICE, assumption 1). The opcode table has no row for a tick:
while no command waits, one step lets one millisecond pass and puts the events that have then fallen
due in the queue, in the fixed order of `State.dueEvents`. No time passes while commands wait. Each of
them is checked again when it is taken.
-/
namespace Sys2Proof.Machine
open Sys2Proof

/-- An event, where it is due. -/
def due (d : Bool) (i : Instr) : List Instr := if d then [i] else []

/-- The folded classes of the three ports. -/
def intervals : List (Port × NoticeClass) :=
  [.signalling, .train, .station].flatMap fun p =>
    [(p, .phase), (p, .operation), (p, .alarm), (p, .dwell), (p, .gap)]

/-- The events of bay `b` that are due. -/
def State.dueAtBay (s : State) (b : Nat) : List Instr :=
  due (s.isolationDue b) (.isolationExpired b) ++
  due (s.openTimeoutDue b) (.openTimeout b) ++
  due (s.closeTimeoutDue b) (.closeTimeout b) ++
  due (s.doorwayHoldDue b) (.doorwayHoldExpiry b) ++
  due (s.reopenHoldDue b) (.reopenHoldExpiry b) ++
  due (s.discrepancyDue b) (.discrepancyTimerExpiry b) ++
  due (s.recoveryDue b) (.recoveryTimerExpiry b) ++
  due (s.stepLimitDue b) (.stepTimeLimitExpiry b) ++
  due (s.presenceStuckDue b) (.presenceStuck b) ++
  due (s.gapPassDue b) (.gapCheckPassed b) ++
  due (s.gapFailDue b) (.gapCheckFailed b) ++
  due (s.intrusionDue b) (.trackIntrusion b)

/-- Every event that is due, in the order it is taken: the store and the load, the links, the bays in
ascending order, the berth, the outputs, the notices, and the Door Bus. -/
def State.dueEvents (s : State) : List Instr :=
  due s.commitDue .commitWriteEnd ++
  due (s.store.loadDetail.isNone && s.loadEnds) .loadSucceeded ++
  due (s.store.loadDetail.isSome && s.loadEnds) .loadFailed ++
  due (s.pastEnd s.link.watchdog) .sigWatchdogExpiry ++
  due s.trainLossDue .trainLossExpiry ++
  (upTo bayEntries).flatMap s.dueAtBay ++
  due s.intrusionClearDue .intrusionClear ++
  due s.beamStopDue .beamStop ++
  due (s.clearDue .departing) .departClear ++
  due (s.clearDue .occupiedUnknown) .occupiedClear ++
  due s.dwellDue .dwellExpiry ++
  due (s.outputFaultDue .a) (.outputFault .a) ++
  due (s.outputFaultDue .b) (.outputFault .b) ++
  (intervals.filter fun x => (s.intervalOver x.1 x.2).isSome).map
    (fun x => .noticeIntervalEnd x.1 x.2) ++
  due (s.slotOver && s.bus.awaiting.isSome) .nodeReplyMissed ++
  due s.slotOver .poll

/-- One millisecond later. -/
def State.later (s : State) : State := { s.begin_ with now := s.now + 1 }

/-- A step with no command waiting: a powered part lets one millisecond pass, and what is then due
waits to be taken; without supply nothing happens. -/
def State.tick (s : State) : State :=
  if s.powered then { s.later with pending := s.later.dueEvents } else s

end Sys2Proof.Machine
end

