-- ==== Sys2Proof/Machine/Frames.lean ====
section
/-!
DEFINITION. The frames that are no request of R154 (R150 to R152): a bad frame, a frame of a reply or
outgoing kind, a Station Link frame for another address, and a request of an unknown kind.
-/
namespace Sys2Proof.Machine
open Sys2Proof

/-- FRAME_BAD: discarded silently; it feeds nothing, restarts nothing and raises nothing (R150). -/
def execFrameBad (_port : Port) (s : State) : Outcome := .next (s.event id)

/-- FRAME_NOT_REQUEST: a good frame of a reply or outgoing kind is discarded without a reply; on the
Train Link it is a valid frame (R150, R139). -/
def execFrameNotRequest (port : Port) (_addr _kind : Nat) (s : State) : Outcome :=
  .next (s.event (State.goodFrame port))

/-- FRAME_OTHER_ADDRESS: a good frame on the Station Link with another address is ignored; it is not
answered and gives no turn to transmit (R151). -/
def execFrameOtherAddress (_addr _kind : Nat) (s : State) : Outcome := .next (s.event id)

/-- UNKNOWN_REQUEST_KIND: answered FORMAT by the first check of R152. -/
def execUnknownRequestKind (r : Req) (kind : Nat) (s : State) : Outcome :=
  .next (s.takeFrame r kind fun t => t.answer .format)

end Sys2Proof.Machine
end

