-- ==== Sys2Proof/Machine/Dispatch.lean ====
section
/-!
DEFINITION. One arm for each command: its meaning, or its rejection by name.
-/
namespace Sys2Proof.Machine
open Sys2Proof

def exec (i : Instr) (s : State) : Host.Outcome State Fault Refusal :=
  match i with
  | .powerOn => Sys2Proof.Machine.execPowerOn s
  | .powerLoss => Sys2Proof.Machine.execPowerLoss s
  | .loadSucceeded => Sys2Proof.Machine.execLoadSucceeded s
  | .loadFailed => Sys2Proof.Machine.execLoadFailed s
  | .heartbeat r => Sys2Proof.Machine.execHeartbeat r s
  | .appendApproach r f => Sys2Proof.Machine.execAppendApproach r f s
  | .withdrawApproach r seq => Sys2Proof.Machine.execWithdrawApproach r seq s
  | .resyncQueue r expected clear => Sys2Proof.Machine.execResyncQueue r expected clear s
  | .isolationConcurrence r bay => Sys2Proof.Machine.execIsolationConcurrence r bay s
  | .statusRequest r => Sys2Proof.Machine.execStatusRequest r s
  | .identify r f => Sys2Proof.Machine.execIdentify r f s
  | .stopped r offset => Sys2Proof.Machine.execStopped r offset s
  | .moving r => Sys2Proof.Machine.execMoving r s
  | .openRequest r => Sys2Proof.Machine.execOpenRequest r s
  | .openStation r => Sys2Proof.Machine.execOpenStation r s
  | .closeRequest r => Sys2Proof.Machine.execCloseRequest r s
  | .closeStation r => Sys2Proof.Machine.execCloseStation r s
  | .statusRead r => Sys2Proof.Machine.execStatusRead r s
  | .bayRead r bay => Sys2Proof.Machine.execBayRead r bay s
  | .alarmRead r position => Sys2Proof.Machine.execAlarmRead r position s
  | .queueRead r => Sys2Proof.Machine.execQueueRead r s
  | .ackNext r => Sys2Proof.Machine.execAckNext r s
  | .purgeAlarms r => Sys2Proof.Machine.execPurgeAlarms r s
  | .confirmOpen r => Sys2Proof.Machine.execConfirmOpen r s
  | .retryBay r bay => Sys2Proof.Machine.execRetryBay r bay s
  | .closeBay r bay => Sys2Proof.Machine.execCloseBay r bay s
  | .restoreBay r bay => Sys2Proof.Machine.execRestoreBay r bay s
  | .probeAlignment r f => Sys2Proof.Machine.execProbeAlignment r f s
  | .clearUsage r bay => Sys2Proof.Machine.execClearUsage r bay s
  | .setNoticeMask r port classes => Sys2Proof.Machine.execSetNoticeMask r port classes s
  | .confirmBerth r profile orientation => Sys2Proof.Machine.execConfirmBerth r profile orientation s
  | .isolateBay r bay => Sys2Proof.Machine.execIsolateBay r bay s
  | .deisolateBay r bay => Sys2Proof.Machine.execDeisolateBay r bay s
  | .rearm r => Sys2Proof.Machine.execRearm r s
  | .enterCommissioning r => Sys2Proof.Machine.execEnterCommissioning r s
  | .writeGeometry r f => Sys2Proof.Machine.execWriteGeometry r f s
  | .writeProfile r f => Sys2Proof.Machine.execWriteProfile r f s
  | .writeParameters r f => Sys2Proof.Machine.execWriteParameters r f s
  | .commit r => Sys2Proof.Machine.execCommit r s
  | .exitCommissioning r => Sys2Proof.Machine.execExitCommissioning r s
  | .commitAndExit r => Sys2Proof.Machine.execCommitAndExit r s
  | .commitWriteEnd => Sys2Proof.Machine.execCommitWriteEnd s
  | .testBayStep r bay => Sys2Proof.Machine.execTestBayStep r bay s
  | .restart r => Sys2Proof.Machine.execRestart r s
  | .frameBad port => Sys2Proof.Machine.execFrameBad port s
  | .frameNotRequest port addr kind => Sys2Proof.Machine.execFrameNotRequest port addr kind s
  | .frameOtherAddress addr kind => Sys2Proof.Machine.execFrameOtherAddress addr kind s
  | .unknownRequestKind r kind => Sys2Proof.Machine.execUnknownRequestKind r kind s
  | .beamChange beam blocked => Sys2Proof.Machine.execBeamChange beam blocked s
  | .beamStop => Sys2Proof.Machine.execBeamStop s
  | .departClear => Sys2Proof.Machine.execDepartClear s
  | .occupiedClear => Sys2Proof.Machine.execOccupiedClear s
  | .dwellExpiry => Sys2Proof.Machine.execDwellExpiry s
  | .evacAsserted => Sys2Proof.Machine.execEvacAsserted s
  | .evacReleased => Sys2Proof.Machine.execEvacReleased s
  | .keyChange asserted => Sys2Proof.Machine.execKeyChange asserted s
  | .addrChange addr => Sys2Proof.Machine.execAddrChange addr s
  | .readbackChange channel energised => Sys2Proof.Machine.execReadbackChange channel energised s
  | .outputFault channel => Sys2Proof.Machine.execOutputFault channel s
  | .poll => Sys2Proof.Machine.execPoll s
  | .nodeReply r => Sys2Proof.Machine.execNodeReply r s
  | .nodeReplyMissed => Sys2Proof.Machine.execNodeReplyMissed s
  | .openTimeout bay => Sys2Proof.Machine.execOpenTimeout bay s
  | .closeTimeout bay => Sys2Proof.Machine.execCloseTimeout bay s
  | .doorwayHoldExpiry bay => Sys2Proof.Machine.execDoorwayHoldExpiry bay s
  | .reopenHoldExpiry bay => Sys2Proof.Machine.execReopenHoldExpiry bay s
  | .discrepancyTimerExpiry bay => Sys2Proof.Machine.execDiscrepancyTimerExpiry bay s
  | .recoveryTimerExpiry bay => Sys2Proof.Machine.execRecoveryTimerExpiry bay s
  | .stepTimeLimitExpiry bay => Sys2Proof.Machine.execStepTimeLimitExpiry bay s
  | .presenceStuck bay => Sys2Proof.Machine.execPresenceStuck bay s
  | .gapCheckPassed bay => Sys2Proof.Machine.execGapCheckPassed bay s
  | .gapCheckFailed bay => Sys2Proof.Machine.execGapCheckFailed bay s
  | .trackIntrusion bay => Sys2Proof.Machine.execTrackIntrusion bay s
  | .intrusionClear => Sys2Proof.Machine.execIntrusionClear s
  | .sigWatchdogExpiry => Sys2Proof.Machine.execSigWatchdogExpiry s
  | .trainLossExpiry => Sys2Proof.Machine.execTrainLossExpiry s
  | .isolationExpired bay => Sys2Proof.Machine.execIsolationExpired bay s
  | .noticeIntervalEnd port cls => Sys2Proof.Machine.execNoticeIntervalEnd port cls s

end Sys2Proof.Machine
end

