-- ==== Sys2Proof/WellFormed.lean ====
section
/-!
DEFINITION. The operands a command may carry: each field within the width R162 gives its type, each
line, beam, bay and kind within the numbers the manual gives. A well-formed command may still be
refused by the rule that owns it; an ill-formed one stands for nothing a link, a line or a node of
the part could present.
-/
namespace Sys2Proof

/-- A one-byte field (R162). -/
def byteField (n : Nat) : Bool := decide (n < 256)

/-- A three-byte two's complement field (R162). -/
def mmField (x : Int) : Bool := decide (-8388608 ≤ x ∧ x ≤ 8388607)

/-- The head of a request: strap addresses 0..31 on the Station Link, a one-byte tag, a payload of
at most 200 bytes (R150, R162). -/
def Req.wellFormed (r : Req) : Bool :=
  decide (r.addr < 32) && byteField r.tag && decide (r.len ≤ 200)

/-- An optional field is absent or holds a value of its own type (R162). -/
def optionField {α : Type} (p : α → Bool) : Option α → Bool
  | none => true
  | some x => p x

def AppendFields.wellFormed (f : AppendFields) : Bool :=
  byteField f.seq && decide (f.trainId < 65536) && byteField f.profile && optionField byteField f.dwell

def IdentifyFields.wellFormed (f : IdentifyFields) : Bool :=
  decide (f.trainId < 65536) && byteField f.profile

def ProbeFields.wellFormed (f : ProbeFields) : Bool := byteField f.profile && mmField f.d

def GeometryFields.wellFormed (f : GeometryFields) : Bool :=
  byteField f.number && mmField f.position && mmField f.width && byteField f.gapClass

def ProfileFields.wellFormed (f : ProfileFields) : Bool :=
  byteField f.slot && byteField f.door && mmField f.first && mmField f.second && mmField f.third

def ParameterFields.wellFormed (f : ParameterFields) : Bool :=
  byteField f.position && mmField f.value

/-- A node reply names a bay 1..24 and a leaf position 0..100 (R86). -/
def NodeReply.wellFormed (r : NodeReply) : Bool :=
  decide (1 ≤ r.bay ∧ r.bay ≤ 24) && decide (r.leaf ≤ 100)

/-- A reply kind (a request kind with 80h added) or an outgoing kind of R162. -/
def isAnswerKind (k : Nat) : Bool := decide (0x81 ≤ k ∧ k ≤ 0xA7) || decide (0xF0 ≤ k ∧ k ≤ 0xF3)

/-- A request kind of R154: 01h HEARTBEAT to 27h RESTART. -/
def isRequestKind (k : Nat) : Bool := decide (0x01 ≤ k ∧ k ≤ 0x27)

/-- A bay number 1..24, as an event of one bay names it. -/
def bayNumber (b : Nat) : Bool := decide (1 ≤ b ∧ b ≤ 24)

/-- The classes R160 folds. -/
def NoticeClass.isFolded : NoticeClass → Bool
  | .phase | .operation | .alarm | .dwell | .gap => true
  | .secure | .emergency => false

/-- The operands of a command lie within what the part can be given. -/
def Instr.wellFormed : Instr → Bool
  | .powerOn | .powerLoss | .loadSucceeded | .loadFailed | .commitWriteEnd | .frameBad _
  | .beamStop | .departClear | .occupiedClear | .dwellExpiry | .evacAsserted | .evacReleased
  | .keyChange _ | .readbackChange _ _ | .outputFault _ | .poll | .nodeReplyMissed
  | .intrusionClear | .sigWatchdogExpiry | .trainLossExpiry => true
  | .heartbeat r | .statusRequest r | .moving r | .openRequest r | .openStation r
  | .closeRequest r | .closeStation r | .statusRead r | .queueRead r | .ackNext r
  | .purgeAlarms r | .confirmOpen r | .rearm r | .enterCommissioning r | .commit r
  | .exitCommissioning r | .commitAndExit r | .restart r => r.wellFormed
  | .appendApproach r f => r.wellFormed && f.wellFormed
  | .withdrawApproach r seq => r.wellFormed && byteField seq
  | .resyncQueue r e _ => r.wellFormed && optionField byteField e
  | .isolationConcurrence r b | .bayRead r b | .retryBay r b | .closeBay r b | .restoreBay r b
  | .isolateBay r b | .deisolateBay r b | .testBayStep r b => r.wellFormed && byteField b
  | .identify r f => r.wellFormed && f.wellFormed
  | .stopped r o => r.wellFormed && optionField mmField o
  | .alarmRead r p => r.wellFormed && byteField p
  | .probeAlignment r f => r.wellFormed && f.wellFormed
  | .clearUsage r b => r.wellFormed && optionField byteField b
  | .setNoticeMask r _ _ => r.wellFormed
  | .confirmBerth r p _ => r.wellFormed && byteField p
  | .writeGeometry r f => r.wellFormed && f.wellFormed
  | .writeProfile r f => r.wellFormed && f.wellFormed
  | .writeParameters r f => r.wellFormed && f.wellFormed
  | .frameNotRequest _ a k => decide (a < 32) && isAnswerKind k
  | .frameOtherAddress a k => decide (a < 32) && byteField k
  | .unknownRequestKind r k => r.wellFormed && byteField k && !isAnswerKind k && !isRequestKind k
  | .beamChange i _ => decide (i < 16)
  | .addrChange a => decide (a < 32)
  | .nodeReply r => r.wellFormed
  | .openTimeout b | .closeTimeout b | .doorwayHoldExpiry b | .reopenHoldExpiry b
  | .discrepancyTimerExpiry b | .recoveryTimerExpiry b | .stepTimeLimitExpiry b
  | .presenceStuck b | .gapCheckPassed b | .gapCheckFailed b | .trackIntrusion b
  | .isolationExpired b => bayNumber b
  | .noticeIntervalEnd _ c => c.isFolded

end Sys2Proof
end

