-- ==== Sys2Proof/Machine/Codec.lean ====
section
/-!
DEFINITION. Frames as bytes (R150, R162, R163): the receiver that builds a frame from the bytes of a
link, the command a good frame stands for, and the codes and bytes of the messages R163 lays out. The
commands of `Instr` are whole frames, so no step runs these; they say which bytes a command is, and which
bytes a sent frame is.
-/
namespace Sys2Proof.Machine
open Sys2Proof

/-! ### Fields (R162) -/

/-- An unsigned field, most significant byte first. -/
def natOfBytes (p : List Byte) : Nat := p.foldl (fun n b => n * 256 + b.toNat) 0

/-- A three-byte field in two's complement. -/
def mmOfBytes (p : List Byte) : Mm :=
  if natOfBytes p < 8388608 then natOfBytes p else (natOfBytes p : Int) - 16777216

/-- The `n` bytes of a payload from byte `i` on; bytes beyond its end read 00h. -/
def fieldAt (p : List Byte) (i n : Nat) : List Byte :=
  (p.drop i ++ List.replicate n 0#8).take n

/-- The one-byte field at byte `i`. -/
def byteAt (p : List Byte) (i : Nat) : Nat := natOfBytes (fieldAt p i 1)

/-- The millimetre field at byte `i`. -/
def mmAt (p : List Byte) (i : Nat) : Mm := mmOfBytes (fieldAt p i 3)

/-- The named value at byte `i`, coded from 00h in the listed order. -/
def namedAt {α : Type} (values : List α) (p : List Byte) (i : Nat) : Coded α :=
  match values[byteAt p i]? with
  | some v => .named v
  | none => .outside

/-- The optional field at byte `i`: absent where its presence byte is 00h (DESIGN CHOICE, assumption
32, for a presence byte that is neither 00h nor 01h). -/
def optionAt {α : Type} (read : List Byte → Nat → α) (p : List Byte) (i : Nat) : Option α :=
  if byteAt p i = 0 then none else some (read p (i + 1))

/-- The orientations in the order of R20. -/
def Orientation.all : List Orientation := [.forward, .reversed]
/-- The service kinds in the order of R20. -/
def ServiceKind.all : List ServiceKind := [.stopping, .passing, .emptyStock]
/-- The ports in the order of R159. -/
def Port.all : List Port := [.signalling, .train, .station]

/-! ### The command a good frame stands for (R150 to R154, R162) -/

/-- The bytes of a frame after its start marker, without its check. -/
structure RawFrame where
  addr : Byte
  kind : Byte
  tag : Byte
  payload : List Byte
deriving DecidableEq, Repr

/-- The head of a request. -/
def RawFrame.req (f : RawFrame) (p : Port) : Req := ⟨p, f.addr.toNat, f.tag.toNat, f.payload.length⟩

/-- The fields of APPEND_APPROACH in the order of R20. -/
def appendFields (p : List Byte) : AppendFields :=
  ⟨byteAt p 0, natOfBytes (fieldAt p 1 2), byteAt p 3, namedAt Orientation.all p 4,
   namedAt ServiceKind.all p 5, optionAt byteAt p 6⟩

/-- The fields of IDENTIFY in the order of R30. -/
def identifyFields (p : List Byte) : IdentifyFields :=
  ⟨natOfBytes (fieldAt p 0 2), byteAt p 2, namedAt Orientation.all p 3⟩

/-- The fields of WRITE_GEOMETRY in the order of R174. -/
def geometryFields (p : List Byte) : GeometryFields :=
  ⟨namedAt [GeometryItem.bayCount, .bay, .beam] p 0, byteAt p 1, mmAt p 2, mmAt p 5, byteAt p 8,
   namedAt [Disposition.hold, .close] p 9⟩

/-- The fields of WRITE_PROFILE in the order of R174, each value in three bytes (DESIGN CHOICE, assumption
55). -/
def profileFields (p : List Byte) : ProfileFields := ⟨byteAt p 0, byteAt p 1, mmAt p 2, mmAt p 5, mmAt p 8⟩

/-- The value of WRITE_PARAMETERS in the bytes of its parameter (R162). -/
def parameterFields (p : List Byte) : ParameterFields :=
  ⟨byteAt p 0,
   match Param.ofPosition (byteAt p 0) with
   | some q => if q.bytes = 3 then mmAt p 1 else (natOfBytes (fieldAt p 1 q.bytes) : Int)
   | none => 0⟩

/-- The request of a kind, its payload read field by field. -/
def ReqKind.command (k : ReqKind) (r : Req) (p : List Byte) : Instr :=
  match k with
  | .heartbeat => .heartbeat r
  | .appendApproach => .appendApproach r (appendFields p)
  | .withdrawApproach => .withdrawApproach r (byteAt p 0)
  | .resyncQueue => .resyncQueue r (optionAt byteAt p 0) (namedAt [Choice.yes, .no] p 2)
  | .isolationConcurrence => .isolationConcurrence r (byteAt p 0)
  | .statusRequest => .statusRequest r
  | .identify => .identify r (identifyFields p)
  | .stopped => .stopped r (optionAt mmAt p 0)
  | .moving => .moving r
  | .openRequest => .openRequest r
  | .closeRequest => .closeRequest r
  | .statusRead => .statusRead r
  | .bayRead => .bayRead r (byteAt p 0)
  | .alarmRead => .alarmRead r (byteAt p 0)
  | .queueRead => .queueRead r
  | .ackNext => .ackNext r
  | .purgeAlarms => .purgeAlarms r
  | .confirmOpen => .confirmOpen r
  | .closeStation => .closeStation r
  | .retryBay => .retryBay r (byteAt p 0)
  | .closeBay => .closeBay r (byteAt p 0)
  | .restoreBay => .restoreBay r (byteAt p 0)
  | .probeAlignment => .probeAlignment r ⟨byteAt p 0, namedAt Orientation.all p 1, mmAt p 2⟩
  | .clearUsage => .clearUsage r (optionAt byteAt p 0)
  | .setNoticeMask => .setNoticeMask r (namedAt Port.all p 0) (BitVec.ofNat 8 (byteAt p 1))
  | .openStation => .openStation r
  | .confirmBerth => .confirmBerth r (byteAt p 0) (namedAt Orientation.all p 1)
  | .isolateBay => .isolateBay r (byteAt p 0)
  | .deisolateBay => .deisolateBay r (byteAt p 0)
  | .rearm => .rearm r
  | .enterCommissioning => .enterCommissioning r
  | .writeGeometry => .writeGeometry r (geometryFields p)
  | .writeProfile => .writeProfile r (profileFields p)
  | .writeParameters => .writeParameters r (parameterFields p)
  | .commit => .commit r
  | .exitCommissioning => .exitCommissioning r
  | .commitAndExit => .commitAndExit r
  | .testBayStep => .testBayStep r (byteAt p 0)
  | .restart => .restart r

/-- The request kind of a kind code (R154, R162). -/
def ReqKind.ofCode (n : Nat) : Option ReqKind := if n = 0 then none else ReqKind.all[n - 1]?

/-- The command of a good frame on a link of a part with a strap address (R150 to R152). -/
def RawFrame.command (p : Port) (strap : Nat) (f : RawFrame) : Instr :=
  if p = .station ∧ f.addr.toNat ≠ strap then .frameOtherAddress f.addr.toNat f.kind.toNat
  else if isAnswerKind f.kind.toNat then .frameNotRequest p f.addr.toNat f.kind.toNat
  else
    match ReqKind.ofCode f.kind.toNat with
    | some k => k.command (f.req p) f.payload
    | none => .unknownRequestKind (f.req p) f.kind.toNat

/-! ### The receiver of a link (R150) -/

/-- The start marker (R162). -/
def startMarker : Byte := 0xA5#8
/-- A byte later than this after the one before it is late (R150). -/
def byteGapMs : Millis := 5
/-- The longest payload (R150). -/
def payloadLimit : Nat := 200

/-- What the receiver of a link holds: outside a frame, or the bytes taken since the start marker
with the time of the last. -/
inductive Receiver where
  | outside
  | inside (taken : List Byte) (last : Millis)
deriving DecidableEq, Repr

/-- What a received byte ends. -/
inductive Received where
  | nothing
  | bad
  | good (f : RawFrame)
deriving DecidableEq, Repr

/-- A byte outside a frame starts one if it is the start marker (R150). -/
def Receiver.start (b : Byte) (at_ : Millis) : Receiver :=
  if b = startMarker then .inside [] at_ else .outside

/-- The frame of a whole sequence of bytes, good where its check agrees (R150). -/
def wholeFrame (taken : List Byte) : Received :=
  let n := taken.length - 2
  let body := taken.take n
  if natOfBytes (taken.drop n) = (crc16 body).toNat then
    .good ⟨body.getD 0 0#8, body.getD 1 0#8, body.getD 2 0#8, body.drop 4⟩
  else .bad

/-- The length byte is over 200 (R150). -/
def overlong (taken : List Byte) : Bool :=
  decide (4 ≤ taken.length) && decide (payloadLimit < (taken.getD 3 0#8).toNat)

/-- Every byte of the frame has been taken: address, kind, tag, length, payload and check. -/
def isWhole (taken : List Byte) : Bool :=
  decide (4 ≤ taken.length) && taken.length == (taken.getD 3 0#8).toNat + 6

/-- One byte received at a time (R150). A late byte abandons the frame, and is itself looked at as a
start marker (DEDUCED, assumption 32). -/
def Receiver.take (b : Byte) (at_ : Millis) : Receiver → Receiver × Received
  | .outside => (Receiver.start b at_, .nothing)
  | .inside taken last =>
    if last + byteGapMs < at_ then (Receiver.start b at_, .bad)
    else
      let now := taken ++ [b]
      if overlong now then (.outside, .bad)
      else if isWhole now then (.outside, wholeFrame now)
      else (.inside now at_, .nothing)

/-- The command a received frame is (R150); a byte that ends no frame is none. -/
def Received.command (p : Port) (strap : Nat) : Received → Option Instr
  | .nothing => none
  | .bad => some (.frameBad p)
  | .good f => some (f.command p strap)

/-- The commands of a stream of timed bytes on a link, in order. -/
def commandsOf (p : Port) (strap : Nat) : Receiver → List (Byte × Millis) → List Instr
  | _, [] => []
  | x, (b, at_) :: rest =>
    let y := x.take b at_
    (y.2.command p strap).toList ++ commandsOf p strap y.1 rest

/-! ### Codes of named values (R162, R163) -/

def Mode.code : Mode → Nat
  | .startup => 0 | .configFault => 1 | .localMode => 2 | .normal => 3 | .commissioning => 4
  | .emergency => 5

def Phase.code : Phase → Nat
  | .vacant => 0 | .occupiedUnknown => 1 | .arriving => 2 | .aligned => 3 | .misaligned => 4
  | .opening => 5 | .opened => 6 | .closing => 7 | .closedProving => 8 | .secureBerthed => 9
  | .departing => 10

def Permit.code : Permit → Nat
  | .notGranted => 0 | .bySignalling => 1 | .byStation => 2

def AlignOutcome.code : AlignOutcome → Nat
  | .notMade => 0 | .aligned => 1 | .misaligned => 2 | .undetermined => 3 | .noMatch => 4

def orientationCode : Orientation → Nat
  | .forward => 0 | .reversed => 1

def Source.code : Source → Nat
  | .fused => 0 | .beams => 1 | .trainOnly => 2

def OpKind.code : OpKind → Nat
  | .openOp => 0 | .evacOpen => 1 | .closeOp => 2 | .rearmClose => 3 | .recoverClose => 4
  | .movementClose => 5 | .linklossClose => 6

def Origin.code : Origin → Nat
  | .train => 0 | .attendant => 1 | .supervisor => 2 | .part => 3

/-- The status of an operation record, in the order of R64 (R162). PLATFORM_STATUS and DOOR_REPORT, whose
00h is NONE, have codes of their own (R163): `statusByte`. -/
def OpStatus.code : OpStatus → Nat
  | .busy => 0 | .done => 1 | .aborted => 2

def AbortReason.code : AbortReason → Nat
  | .superseded => 0 | .movement => 1 | .emergency => 2

/-- Outcomes, in the order of R64. -/
def BayOutcome.code : BayOutcome → Nat
  | .reached => 0 | .held => 1 | .fault => 2 | .dropped => 3

/-- The state of a bay and its qualifier, each coded in the order of R61. -/
def BayState.codes : BayState → Nat × Nat
  | .locked => (0, 0)
  | .opening => (1, 0)
  | .opened => (2, 0)
  | .closeWait => (3, 0)
  | .closing .normal => (4, 0)
  | .closing .nudge => (4, 1)
  | .reopening .full _ => (5, 0)
  | .reopening .standing _ => (5, 1)
  | .held .obstructionLimit => (6, 0)
  | .held .openingBlocked => (6, 1)
  | .released => (7, 0)
  | .fault .nodeLost => (8, 0)
  | .fault .discrepant => (8, 1)
  | .fault .openTimeout => (8, 2)
  | .fault .closeTimeout => (8, 3)
  | .fault .unexpectedOpen => (8, 4)
  | .isolated => (9, 0)
  | .test => (10, 0)

def noticeClassCode : NoticeClass → Nat
  | .secure => 0 | .phase => 1 | .operation => 2 | .alarm => 3 | .emergency => 4 | .dwell => 5
  | .gap => 6

/-- The result codes from 00h in the order of R155. -/
def Result.code : Result → Nat
  | .accepted => 0 | .done => 1 | .already => 2 | .clamped => 3 | .privilege => 4 | .format => 5
  | .wrongMode => 6 | .wrongPhase => 7 | .wrongState => 8 | .noPermit => 9 | .queueFull => 10
  | .seqError => 11 | .duplicate => 12 | .notFound => 13 | .busy => 14 | .emergency => 15
  | .causesActive => 16 | .notProven => 17 | .isolationLimit => 18 | .invalidArgument => 19
  | .validation => 20 | .wearLimit => 21

/-! ### The bytes of outgoing messages (R162, R163) -/

/-- A flag whose rule lists no two values, or lists clear first: 00h clear or no, 01h set or yes, as R163
codes SYNC_LOST (DEDUCED, assumption 64); so too a number that is 0 or 1. -/
def flagByte (b : Bool) : List Byte := [if b then 1#8 else 0#8]

/-- A one-byte field. -/
def oneByte (n : Nat) : List Byte := [natByte n]

/-- An optional field of `n` bytes: the presence byte, then the field or bytes of 00h (R162). -/
def optionBytes (n : Nat) : Option (List Byte) → List Byte
  | none => List.replicate (n + 1) 0#8
  | some bs => 1#8 :: bs

/-- A set of named values in one byte, bit 0 first (R162). -/
def Reasons.byte (r : Reasons) : Nat :=
  r.mode.toNat + r.bayNotLocked.toNat * 2 + r.gapCheck.toNat * 4 + r.intrusion.toNat * 8 +
    r.emergency.toNat * 16 + r.outputFault.toNat * 32

/-- The operation status of PLATFORM_STATUS and DOOR_REPORT: 00h NONE, 01h BUSY, 02h DONE, 03h ABORTED
(R163). -/
def statusByte (x : Option OpStatus) : List Byte := oneByte ((x.map fun y => y.code + 1).getD 0)

/-- PLATFORM_STATUS, 19 bytes; its secure state is 00h WITHHELD, 01h ASSERTED (R163). -/
def PlatformStatus.bytes (p : PlatformStatus) : List Byte :=
  oneByte p.mode.code ++ flagByte p.secure ++ oneByte p.reasons.byte ++ oneByte p.phase.code ++
    oneByte p.permit.code ++ optionBytes 1 (p.lastBound.map oneByte) ++ oneByte p.queueLength ++
    flagByte p.syncLost ++ statusByte p.opStatus ++
    optionBytes 1 (p.opKind.map fun k => oneByte k.code) ++
    optionBytes 1 (p.opOrigin.map fun o => oneByte o.code) ++ flagByte p.emergency ++
    bytesOf 4 p.seconds

/-- BERTH_REPORT, 16 to 48 bytes (R163). -/
def BerthReport.bytes (r : BerthReport) : List Byte :=
  oneByte r.outcome.code ++ optionBytes 1 (r.profile.map oneByte) ++
    optionBytes 1 (r.orientation.map fun o => oneByte (orientationCode o)) ++ optionBytes 3 (r.d.map mmBytes) ++
    optionBytes 1 (r.source.map fun x => oneByte x.code) ++
    optionBytes 3 (r.reposition.map mmBytes) ++ oneByte r.inhibit.length ++ r.inhibit.map natByte

/-- One SERVED bay of a DOOR_REPORT, 5 bytes, its outcome 00h for none and from 01h on in the order of R64
(R163). A bay has a state from the first load on. -/
def DoorReportItem.bytes (i : DoorReportItem) : List Byte :=
  let st := (i.state.map BayState.codes).getD (0, 0)
  [natByte i.bay, natByte i.door, natByte st.1, natByte st.2,
    natByte ((i.outcome.map fun x => x.code + 1).getD 0)]

/-- DOOR_REPORT, 6 to 126 bytes (R163). -/
def DoorReport.bytes (r : DoorReport) : List Byte :=
  oneByte ((r.kind.map OpKind.code).getD 0) ++ oneByte ((r.origin.map Origin.code).getD 0) ++
    statusByte r.status ++
    optionBytes 1 (r.abort.map fun a => oneByte a.code) ++ oneByte r.bays.length ++
    r.bays.flatMap DoorReportItem.bytes

/-- A bay set, 4 bytes: bit 0 of the last byte is bay 1 (R162). -/
def baySetBytes (bays : List Nat) : List Byte :=
  bytesOf 4 ((upTo bayEntries).foldl (fun n b => if bays.contains b then n + 2 ^ (b - 1) else n) 0 : Nat)

/-- The bytes of a frame whose payload is `payload` (R162): marker, address, kind, tag, length,
payload, and the check of all from the address on. -/
def frameBytes (addr kind tag : Nat) (payload : List Byte) : List Byte :=
  let body := [natByte addr, natByte kind, natByte tag, natByte payload.length] ++ payload
  startMarker :: body ++ bytesOf 2 ((crc16 body).toNat : Int)

end Sys2Proof.Machine
end

