-- ==== Sys2Proof/Safety.lean ====
section
/-!
DEFINITION. The words claims about the part are made in: a request that passes the checks of R152, the
reply it gets, the parts of the state an operation leaves alone, and what holds of every state that a
step leaves.
-/
namespace Sys2Proof.Machine
open Sys2Proof

/-! ### Requests and replies -/

/-- The request passes the checks of R152 and is for this part: supply, address, length, authority. -/
structure State.Accepts (s : State) (r : Req) (k : ReqKind) : Prop where
  powered : s.powered = true
  address : s.otherAddress r = false
  length : r.len = k.length
  authority : k.allows (s.authorityOf r.port) = true

/-- Among the frames a step sent is the reply to a request, with its result and detail (R152). -/
def State.Replied (s t : State) (r : Req) (k : ReqKind) (x : Result) (d : Detail) : Prop :=
  s.replyFrame r k.code x d ∈ t.send.sent

/-! ### What an operation leaves alone -/

/-- The parts of the state no operation on the berth, the bays or the operation record touches. -/
structure Setting where
  powered : Bool
  now : Millis
  lines : Lines
  mode : Mode
  link : LinkState
  bus : BusState
  emer : EmergencyState
  store : StoreState
  freeCount : Nat
  pending : List Instr
deriving DecidableEq, Repr

/-- The setting of a state. -/
def State.setting (s : State) : Setting :=
  ⟨s.powered, s.now, s.lines, s.mode, s.link, s.bus, s.emer, s.store, s.freeCount, s.pending⟩

/-- Two states that differ at most in what has been sent. -/
structure State.SameButSend (s t : State) : Prop where
  setting : t.setting = s.setting
  berth : t.berth = s.berth
  doors : t.doors = s.doors
  bays : t.bays = s.bays
  sense : t.sense = s.sense
  secure : t.secure = s.secure
  alarms : t.alarms = s.alarms

/-! ### What every step leaves -/

/-- What the end of every command of a powered part establishes: the reason set is that of R112, secure
is asserted and both drives energised exactly while it is empty (R114), each disagreement timer runs
exactly while readback and drive differ (R115), the phase does not wait on bays that have already
locked (R38), and UNEXPECTED_MOVEMENT is not left ACTIVE without cause (R77). -/
structure State.Settled (s : State) : Prop where
  reasons : s.secure.reasons = s.judge
  asserted : s.secure.asserted = s.secure.reasons.isEmpty
  driveA : s.secure.driveA = s.secure.asserted
  driveB : s.secure.driveB = s.secure.asserted
  timerA : s.secure.disagreeA.isSome = (s.secure.driveA != s.lines.readbackA)
  timerB : s.secure.disagreeB.isSome = (s.secure.driveB != s.lines.readbackB)
  phase : s.settledPhase = s.berth.phase
  movement : s.movementOver = false

/-- The invariant of the part: settled while powered, and both drives off while not (R114). -/
structure State.Inv (s : State) : Prop where
  settled : s.powered = true → s.Settled
  unpowered : s.powered = false → s.secure.driveA = false ∧ s.secure.driveB = false

/-- The edge is fit to be shown secure: NORMAL or LOCAL, every bay LOCKED or ISOLATED, no gap check
PENDING or FAILED, the intrusion state CLEAR, no emergency cause and no latched output fault (R114). -/
structure State.EdgeSecure (s : State) : Prop where
  mode : s.mode = .normal ∨ s.mode = .localMode
  bays : ∀ b, s.inTable b = true → s.bayIs b BayState.isShut = true
  gaps : ∀ b, s.inTable b = true → (s.bay b).gap.isOpen = false
  intrusion : s.sense.intrusion = .clear
  causes : s.noCause = true
  latch : s.secure.latched = false

/-! ### The bounds of the lists -/

/-- The Alarm List holds at most 48 entries, and no two unacknowledged ones share kind and bay
(R164). -/
structure AlarmState.Sound (a : AlarmState) : Prop where
  room : a.entries.length ≤ alarmLimit
  unique : (a.entries.filter fun e => !e.acked).Pairwise fun x y => ¬(x.kind = y.kind ∧ x.bay = y.bay)

/-- The approach queue holds at most 8 records in ascending sequence order modulo 256, counted from
the head (R21). -/
structure BerthState.QueueSound (x : BerthState) : Prop where
  room : x.queue.length ≤ queueLimit
  ascending : ∀ h rest, x.queue = h :: rest →
    x.queue.Pairwise fun a b => seqFrom h.seq a.seq < seqFrom h.seq b.seq

/-! ### One bay, one request -/

/-- The part holds its 24 bay records. -/
def State.Shaped (s : State) : Prop := s.bays.length = bayEntries

/-- What a berth record says of the train that no bay, operation or alignment changes. -/
structure BerthIdentity where
  trainId : Option Nat
  identifiedId : Option Nat
  profile : Option Nat
  orientation : Option Orientation
  service : Option ServiceKind
  approachSeq : Option Nat
  permit : Permit
  disputed : Bool
  dwell : Option Seconds
deriving DecidableEq, Repr

/-- The identity, permit and dwell of a berth record. -/
def Berth.identity (r : Berth) : BerthIdentity :=
  ⟨r.trainId, r.identifiedId, r.profile, r.orientation, r.service, r.approachSeq, r.permit, r.disputed,
   r.dwell⟩

/-- The berth state but for the phase, the alignment and what an operation writes into the record:
queue, numbers, summary, held offset, stop counts, and the identity of the record. -/
structure BerthRest where
  queue : List Approach
  expected : Option Nat
  syncLost : Bool
  lastBound : Option Nat
  summary : Option Summary
  pendingStop : Bool
  heldOffset : Option Mm
  stableFrom : Option Millis
  stopTaken : Bool
  identity : Option BerthIdentity
deriving DecidableEq, Repr

/-- That part of the berth state. -/
def BerthState.rest (x : BerthState) : BerthRest :=
  ⟨x.queue, x.expected, x.syncLost, x.lastBound, x.summary, x.pendingStop, x.heldOffset, x.stableFrom,
   x.stopTaken, x.record.map Berth.identity⟩

/-- From `s` to `t` no bay record outside `B` has changed, and nothing that no bay, operation or report
changes: the setting, the sensing state of the platform, the bay count, and the rest of the berth. -/
structure State.OnlyBays (B : Nat → Prop) (s t : State) : Prop where
  setting : t.setting = s.setting
  sense : t.sense = s.sense
  count : t.doors.count = s.doors.count
  berth : t.berth.rest = s.berth.rest
  bays : ∀ c, ¬ B c → t.bay c = s.bay c

/-- The state in which a good frame on a link is looked at: the frames of earlier steps are gone and,
on the Train Link, the link is UP (R139). -/
def State.taken (p : Port) (s : State) : State := s.begin_.goodFrame p

/-- The head and kind of a request of R154; the other commands have none. -/
def requestOf : Instr → Option (Req × ReqKind)
  | .heartbeat r => some (r, .heartbeat)
  | .appendApproach r _ => some (r, .appendApproach)
  | .withdrawApproach r _ => some (r, .withdrawApproach)
  | .resyncQueue r _ _ => some (r, .resyncQueue)
  | .isolationConcurrence r _ => some (r, .isolationConcurrence)
  | .statusRequest r => some (r, .statusRequest)
  | .identify r _ => some (r, .identify)
  | .stopped r _ => some (r, .stopped)
  | .moving r => some (r, .moving)
  | .openRequest r => some (r, .openRequest)
  | .openStation r => some (r, .openStation)
  | .closeRequest r => some (r, .closeRequest)
  | .closeStation r => some (r, .closeStation)
  | .statusRead r => some (r, .statusRead)
  | .bayRead r _ => some (r, .bayRead)
  | .alarmRead r _ => some (r, .alarmRead)
  | .queueRead r => some (r, .queueRead)
  | .ackNext r => some (r, .ackNext)
  | .purgeAlarms r => some (r, .purgeAlarms)
  | .confirmOpen r => some (r, .confirmOpen)
  | .retryBay r _ => some (r, .retryBay)
  | .closeBay r _ => some (r, .closeBay)
  | .restoreBay r _ => some (r, .restoreBay)
  | .probeAlignment r _ => some (r, .probeAlignment)
  | .clearUsage r _ => some (r, .clearUsage)
  | .setNoticeMask r _ _ => some (r, .setNoticeMask)
  | .confirmBerth r _ _ => some (r, .confirmBerth)
  | .isolateBay r _ => some (r, .isolateBay)
  | .deisolateBay r _ => some (r, .deisolateBay)
  | .rearm r => some (r, .rearm)
  | .enterCommissioning r => some (r, .enterCommissioning)
  | .writeGeometry r _ => some (r, .writeGeometry)
  | .writeProfile r _ => some (r, .writeProfile)
  | .writeParameters r _ => some (r, .writeParameters)
  | .commit r => some (r, .commit)
  | .exitCommissioning r => some (r, .exitCommissioning)
  | .commitAndExit r => some (r, .commitAndExit)
  | .testBayStep r _ => some (r, .testBayStep)
  | .restart r => some (r, .restart)
  | .powerOn | .powerLoss | .loadSucceeded | .loadFailed | .commitWriteEnd | .frameBad _
  | .frameNotRequest _ _ _ | .frameOtherAddress _ _ | .unknownRequestKind _ _ | .beamChange _ _
  | .beamStop | .departClear | .occupiedClear | .dwellExpiry | .evacAsserted | .evacReleased
  | .keyChange _ | .addrChange _ | .readbackChange _ _ | .outputFault _ | .poll | .nodeReply _
  | .nodeReplyMissed | .openTimeout _ | .closeTimeout _ | .doorwayHoldExpiry _ | .reopenHoldExpiry _
  | .discrepancyTimerExpiry _ | .recoveryTimerExpiry _ | .stepTimeLimitExpiry _ | .presenceStuck _
  | .gapCheckPassed _ | .gapCheckFailed _ | .trackIntrusion _ | .intrusionClear | .sigWatchdogExpiry
  | .trainLossExpiry | .isolationExpired _ | .noticeIntervalEnd _ _ => none

/-- A frame is a reply (R152). -/
def Frame.isReply (f : Frame) : Bool :=
  match f.body with
  | .reply _ _ => true
  | .platformStatus _ | .berthReport _ | .doorReport _ | .notice _ _ => false

/-- The replies among the frames sent by the latest step. -/
def SendState.replies (d : SendState) : List Frame := d.sent.filter Frame.isReply

end Sys2Proof.Machine
end

