-- ==== Sys2Proof/Certificates/Slice0/Obligations.lean ====
section
/-!
DEFINITION. The statements for the provers, taken from the numbered rules of the manual.
-/
open Sys2Proof Sys2Proof.Machine

/-! ### The machine as a whole -/

/-- A step takes the command at the front of the queue: it is `exec` of it on the state with the rest. -/
def Obligations.StepTakesTheFrontCommand : Prop :=
  ∀ (s : State) (c : Instr) (rest : List Instr), s.pending = c :: rest →
    step s = exec c { s with pending := rest }

/-- With no command waiting a powered part lets one millisecond pass, and the events then due wait to be
taken; a part without supply stands. The model's own choice (assumption 1). -/
def Obligations.IdleStepLetsAMillisecondPass : Prop :=
  ∀ s : State, s.pending = [] →
    (s.powered = true → step s = .next { s with
      now := s.now + 1, send := { s.send with sent := [] }, pending := s.later.dueEvents }) ∧
    (s.powered = false → step s = .next s)

/-- Every command of the table gives a next state in every state: none faults, none is refused. -/
def Obligations.EveryCommandGivesANextState : Prop :=
  ∀ (c : Instr) (s : State), ∃ t, exec c s = .next t

/-- The reset state is what POWER_ON makes of it, with the values the manual gives for power-on. That it
follows a power-on of a delivered part with its lines at rest is the model's choice (assumption 2). -/
def Obligations.ResetStandsAfterPowerOn : Prop :=
  exec .powerOn State.reset = .next State.reset ∧
    State.reset.mode = .startup ∧ State.reset.now = 0 ∧
    State.reset.secure.asserted = false ∧ State.reset.secure.reasons = .modeOnly ∧
    State.reset.secure.driveA = false ∧ State.reset.secure.driveB = false ∧
    State.reset.berth.queue = [] ∧ State.reset.berth.expected = none ∧
    State.reset.berth.syncLost = false ∧ State.reset.berth.lastBound = none ∧
    State.reset.berth.record = none ∧ State.reset.link.watchdog = none ∧
    State.reset.link.trainUp = false ∧ State.reset.send.outbox = [] ∧
    State.reset.send.signalling.mask = .signallingDefault ∧
    State.reset.send.train.mask = .trainDefault ∧ State.reset.send.station.mask = .stationDefault ∧
    State.reset.alarms = ⟨[], false⟩ ∧ State.reset.emer = ⟨false, [], none⟩ ∧
    State.reset.store.image.count = 0 ∧ State.reset.store.writeCount = 0 ∧
    State.reset.store.working = none

/-- The invariant holds at reset. -/
def Obligations.ResetSatisfiesTheInvariant : Prop := State.reset.Inv ∧ State.reset.Shaped

/-- Every step keeps the invariant: after it a powered part shows the reasons of R112, is asserted and
drives both channels exactly while there are none, times each disagreeing channel, has no phase waiting
on bays already locked, and no UNEXPECTED_MOVEMENT active without cause; without supply both drives are
off. That the phase judges the bays as they stand is the model's choice (assumption 66). -/
def Obligations.EveryStepKeepsTheInvariant : Prop :=
  ∀ s t : State, s.Inv → step s = .next t → t.Inv

/-- Each channel is energised exactly in a powered part whose edge is fit to be shown secure (R114). -/
def Obligations.DrivesFollowTheEdge : Prop :=
  ∀ s : State, s.Inv →
    (s.secure.driveA = true ↔ s.powered = true ∧ s.EdgeSecure) ∧
    (s.secure.driveB = true ↔ s.powered = true ∧ s.EdgeSecure)

/-- Every step keeps the Alarm List within 48 entries, with no two unacknowledged entries of one kind and
bay (R164). -/
def Obligations.EveryStepKeepsTheAlarmListSound : Prop :=
  ∀ s t : State, s.alarms.Sound → step s = .next t → t.alarms.Sound

/-- Every step keeps the approach queue within 8 records, in ascending sequence order from its head
(R21). -/
def Obligations.EveryStepKeepsTheQueueSound : Prop :=
  ∀ s t : State, s.berth.QueueSound → step s = .next t → t.berth.QueueSound

/-- Every step keeps the 24 bay records. -/
def Obligations.EveryStepKeepsTheBayRecords : Prop :=
  ∀ s t : State, s.Shaped → step s = .next t → t.Shaped

/-- Every request of R154 that is for this part gets exactly one reply, with its kind plus 80h and its
tag, whatever the owner decides. -/
def Obligations.EveryRequestGetsOneReply : Prop :=
  ∀ (i : Instr) (r : Req) (k : ReqKind) (s : State), requestOf i = some (r, k) → s.powered = true →
    s.otherAddress r = false →
    ∃ t x d, exec i s = .next t ∧ t.send.replies = [s.replyFrame r k.code x d]

/-! ### Requests that are turned away -/

/-- A request whose payload has not the length of its kind is answered FORMAT and changes nothing but
what the arrival of a frame on the Train Link changes. One of a class that may not send its kind is
answered PRIVILEGE, raises AUTHORITY_REFUSED with the port and kind, and changes nothing else. The length
of WRITE_PARAMETERS is that of the parameter its position names, and two or three bytes where it names
none. Three lengths are the model's choice: that last one (assumption 9), the optional bay of CLEAR_USAGE
(assumption 31) and the three-byte values of WRITE_PROFILE (assumption 55). -/
def Obligations.WrongLengthAndWrongClassAreRefused : Prop :=
  (∀ (i : Instr) (r : Req) (k : ReqKind) (s : State), s.Inv → requestOf i = some (r, k) →
    k ≠ .writeParameters → s.powered = true → s.otherAddress r = false →
    (r.len ≠ k.length → ∃ t, exec i s = .next t ∧ s.Replied t r k .format .empty ∧
      (s.taken r.port).SameButSend t) ∧
    (r.len = k.length → k.allows (s.authorityOf r.port) = false →
      ∃ t, exec i s = .next t ∧ s.Replied t r k .privilege .empty ∧
        State.SameButSend { s.taken r.port with alarms := ((s.taken r.port).alarms.raise
          .authorityRefused none (some (.refused r.port k)) s.seconds).1 } t)) ∧
  (∀ (r : Req) (f : ParameterFields) (s : State), s.Inv → s.powered = true →
    s.otherAddress r = false →
    (parametersLength f.position r.len = false → ∃ t, exec (.writeParameters r f) s = .next t ∧
      s.Replied t r .writeParameters .format .empty ∧ (s.taken r.port).SameButSend t) ∧
    (parametersLength f.position r.len = true →
      ReqKind.writeParameters.allows (s.authorityOf r.port) = false →
      ∃ t, exec (.writeParameters r f) s = .next t ∧
        s.Replied t r .writeParameters .privilege .empty ∧
        State.SameButSend { s.taken r.port with alarms := ((s.taken r.port).alarms.raise
          .authorityRefused none (some (.refused r.port .writeParameters)) s.seconds).1 } t)) ∧
  (∀ n len, (∀ p, Param.ofPosition n = some p → (parametersLength n len = true ↔ len = 1 + p.bytes)) ∧
    (Param.ofPosition n = none → (parametersLength n len = true ↔ len = 2 ∨ len = 3)))

/-- A request outside the modes its rule takes it in is refused with WRONG_MODE, and an opening or closing
request in EMERGENCY with EMERGENCY; it changes nothing but what the arrival of a frame changes (R22,
R24, R25, R30, R31, R35, R36, R60, R67, R70, R79, R82, R94, R122, R130, R143, R145, R148, R172 to
R176). That the mode is judged first where a rule gives no order is the model's choice (assumption 65). -/
def Obligations.RequestsOutOfTheirModesAreRefused : Prop :=
  (∀ (i : Instr) (r : Req) (k : ReqKind) (s : State), s.Inv → requestOf i = some (r, k) →
    s.Accepts r k →
    (s.mode = .startup ∧ k ∈ [.restoreBay, .probeAlignment, .clearUsage, .restart] ∨
      (s.mode = .startup ∨ s.mode = .configFault) ∧ k = .deisolateBay ∨
      (s.mode = .startup ∨ s.mode = .emergency) ∧ k = .enterCommissioning ∨
      (s.mode = .startup ∨ s.mode = .configFault ∨ s.mode = .commissioning) ∧
        k ∈ [.withdrawApproach, .resyncQueue, .isolationConcurrence, .identify, .stopped, .moving,
          .openRequest, .openStation, .closeRequest, .closeStation, .confirmOpen, .confirmBerth,
          .retryBay, .closeBay, .isolateBay] ∨
      s.takesAppends = false ∧ k = .appendApproach ∨ s.mode ≠ .emergency ∧ k = .rearm ∨
      s.mode ≠ .commissioning ∧ k ∈ [.writeGeometry, .writeProfile, .commit, .exitCommissioning,
        .commitAndExit, .testBayStep] →
      ∃ t, exec i s = .next t ∧ (s.taken r.port).SameButSend t ∧ s.Replied t r k .wrongMode .empty) ∧
    (s.mode = .emergency → k ∈ [.openRequest, .openStation, .closeRequest, .closeStation] →
      ∃ t, exec i s = .next t ∧ (s.taken r.port).SameButSend t ∧ s.Replied t r k .emergency .empty)) ∧
  (∀ (r : Req) (f : ParameterFields) (s : State), s.Inv → s.powered = true →
    s.otherAddress r = false → parametersLength f.position r.len = true →
    ReqKind.writeParameters.allows (s.authorityOf r.port) = true → s.mode ≠ .commissioning →
    ∃ t, exec (.writeParameters r f) s = .next t ∧ (s.taken r.port).SameButSend t ∧
      s.Replied t r .writeParameters .wrongMode .empty)

/-- A bad frame, a frame that is no request, and a frame for another address: nothing is answered and
nothing changes, but that a good frame on the Train Link restarts its loss timer and brings a link that
is DOWN up, with the end of TRAIN_LINK_LOST and the reports due (R139, R141). An unknown kind is answered
FORMAT; that the reply to a kind of 80h and above carries it plus 80h within a byte is the model's choice
(assumption 29). -/
def Obligations.FramesThatAreNoRequestChangeNothing : Prop :=
  ∀ s : State, s.Inv → s.powered = true →
    (∀ p, ∃ x, exec (.frameBad p) s = .next { s with send := x } ∧ x.sent = []) ∧
    (∀ p a k, p ≠ .train → ∃ x, exec (.frameNotRequest p a k) s = .next { s with send := x } ∧ x.sent = []) ∧
    (∀ a k, s.link.trainUp = true → ∃ x, exec (.frameNotRequest .train a k) s = .next { s with
      link := { s.link with trainLossAt := s.now + s.param .trainLoss, lastTrainFrame := some s.now },
      send := x } ∧ x.sent = []) ∧
    (∀ a k, s.link.trainUp = false → ∃ x, exec (.frameNotRequest .train a k) s = .next { s with
        link := { s.link with
          trainUp := true, trainLossAt := s.now + s.param .trainLoss, lastTrainFrame := some s.now }
        alarms := s.alarms.clear (fun e => decide (e.kind = .trainLinkLost) && decide (e.bay = none))
        send := x } ∧
      (s.berth.phase.reportsBerth = true →
        ∃ g ∈ x.sent, g.port = .train ∧ g.body = .berthReport s.berthReport) ∧
      (s.berth.phase.reportsDoors = true → s.doors.operation.isSome = true →
        ∃ g ∈ x.sent, g.port = .train ∧ g.body = .doorReport s.doorReport)) ∧
    (∀ a k, ∃ x, exec (.frameOtherAddress a k) s = .next { s with send := x } ∧ x.sent = []) ∧
    (∀ r k, s.otherAddress r = false → ∃ t, exec (.unknownRequestKind r k) s = .next t ∧
      s.replyFrame r k .format .empty ∈ t.send.sent ∧ (s.taken r.port).SameButSend t)

/-! ### Reads -/

/-- The reads answer DONE with what they show, as it stands. A probe in NORMAL, LOCAL or EMERGENCY of a
fitted slot, a named orientation and a d within 4,000 mm answers DONE with the outcome, map and inhibit
list of that stop (R60). None changes anything. -/
def Obligations.ReadsAndProbesChangeNothing : Prop :=
  (∀ (s : State) (r : Req), s.Inv →
     (s.Accepts r .statusRequest → ∃ t, exec (.statusRequest r) s = .next t ∧ s.SameButSend t ∧
       s.Replied t r .statusRequest .done (.platformStatus s.platformStatus)) ∧
     (s.Accepts r .statusRead → ∃ t, exec (.statusRead r) s = .next t ∧ s.SameButSend t ∧
       s.Replied t r .statusRead .done (.status s.statusView)) ∧
     (s.Accepts r .queueRead → ∃ t, exec (.queueRead r) s = .next t ∧ s.SameButSend t ∧
       s.Replied t r .queueRead .done (.queue s.queueView)) ∧
     (∀ b, s.Accepts r .bayRead → ∃ t, exec (.bayRead r b) s = .next t ∧ s.SameButSend t ∧
       if s.inTable b then s.Replied t r .bayRead .done (.bay (s.bayView b))
       else s.Replied t r .bayRead .invalidArgument .empty) ∧
     (∀ p, s.Accepts r .alarmRead → ∃ t, exec (.alarmRead r p) s = .next t ∧ s.SameButSend t ∧
       if 1 ≤ p ∧ p ≤ 48 then s.Replied t r .alarmRead .done (.alarms (s.alarmView p))
       else s.Replied t r .alarmRead .invalidArgument .empty)) ∧
  (∀ (s : State) (r : Req) (slot : Nat) (o : Orientation) (d : Mm), s.Inv →
     s.Accepts r .probeAlignment → s.working = true → s.profileKnown slot = true →
     -4000 ≤ d → d ≤ 4000 →
     ∃ t, exec (.probeAlignment r ⟨slot, .named o, d⟩) s = .next t ∧ s.SameButSend t ∧
       s.Replied t r .probeAlignment .done (.probe (probe s.content (s.probeBays s.content) slot o d)))

/-! ### The signalling master -/

/-- HEARTBEAT restarts the watchdog, ends SIG_LINK_LOST, takes LOCAL to NORMAL and changes nothing
else. -/
def Obligations.HeartbeatRestartsTheWatchdog : Prop :=
  ∀ (s : State) (r : Req), s.Inv → s.Accepts r .heartbeat →
    ∃ x, exec (.heartbeat r) s = .next { s with
        link := { s.link with watchdog := some (s.now + s.param .sigWatchdog) }
        mode := if s.mode = .localMode then .normal else s.mode
        alarms := s.alarms.clear (fun e => decide (e.kind = .sigLinkLost) && decide (e.bay = none))
        send := x } ∧
      s.replyFrame r ReqKind.heartbeat.code .done .empty ∈ x.sent

/-- The watchdog running out raises SIG_LINK_LOST, takes NORMAL to LOCAL and a saved NORMAL to a saved
LOCAL, and changes nothing else. -/
def Obligations.WatchdogExpiryFallsBack : Prop :=
  ∀ (s : State) (m : Nat), s.Inv → s.powered = true → s.link.watchdog = some m → m ≤ s.now →
    ∃ x, exec .sigWatchdogExpiry s = .next { s with
      link := { s.link with watchdog := none }
      mode := if s.mode = .normal then .localMode else s.mode
      emer := { s.emer with context := if s.mode = .emergency then
        (s.emer.context.map fun c =>
          if c.savedMode = .normal then { c with savedMode := .localMode } else c)
        else s.emer.context }
      alarms := (s.alarms.raise .sigLinkLost none none s.seconds).1
      send := x }

/-- An append that passes the checks of R22 and is in sequence joins the queue at its tail, its dwell
brought into 5..120 s, and the expected number goes on (R20, R23). -/
def Obligations.AppendInSequenceJoinsTheQueue : Prop :=
  ∀ (s : State) (r : Req) (f : AppendFields) (o : Orientation) (k : ServiceKind), s.Inv →
    s.Accepts r .appendApproach → s.takesAppends = true → f.orientation = .named o →
    f.service = .named k → s.profileKnown f.profile = true → s.berth.syncLost = false →
    s.berth.queue.length < 8 → (∀ y ∈ s.berth.queue, y.seq ≠ f.seq) →
    (s.berth.expected = none ∨ s.berth.expected = some f.seq) →
    comesAfterTail s.berth.queue f.seq = true →
    ∃ x, exec (.appendApproach r f) s = .next { s with
        berth := { s.berth with
          queue := s.berth.queue ++ [⟨f.seq, f.trainId, f.profile, o, k, clampDwell f.dwell⟩]
          expected := some ((f.seq + 1) % 256) }
        send := x } ∧
      s.replyFrame r ReqKind.appendApproach.code
        (if clampDwell f.dwell = f.dwell then .done else .clamped) .empty ∈ x.sent

/-- An append out of sequence: under STRICT it sets SYNC_LOST and is answered SEQ_ERROR, the queue
standing; under LENIENT it raises QUEUE_GAP with both numbers and joins (R23). -/
def Obligations.AppendOutOfSequenceFollowsThePolicy : Prop :=
  ∀ (s : State) (r : Req) (f : AppendFields) (o : Orientation) (k : ServiceKind) (e : Nat), s.Inv →
    s.Accepts r .appendApproach → s.takesAppends = true → f.orientation = .named o →
    f.service = .named k → s.profileKnown f.profile = true → s.berth.syncLost = false →
    s.berth.queue.length < 8 → (∀ y ∈ s.berth.queue, y.seq ≠ f.seq) →
    s.berth.expected = some e → e ≠ f.seq →
    (s.content.param .queuePolicy = 0 → ∃ x, exec (.appendApproach r f) s = .next { s with
        berth := { s.berth with syncLost := true }, send := x } ∧
      s.replyFrame r ReqKind.appendApproach.code .seqError .empty ∈ x.sent) ∧
    (s.content.param .queuePolicy ≠ 0 → comesAfterTail s.berth.queue f.seq = true →
      ∃ x, exec (.appendApproach r f) s = .next { s with
        berth := { s.berth with
          queue := s.berth.queue ++ [⟨f.seq, f.trainId, f.profile, o, k, clampDwell f.dwell⟩]
          expected := some ((f.seq + 1) % 256) }
        alarms := (s.alarms.raise .queueGap none (some (.sequence e f.seq)) s.seconds).1
        send := x })

/-- WITHDRAW_APPROACH removes the record of a queued number and leaves the expected number, SYNC_LOST and
the last bound number; otherwise it is answered NOT_FOUND, or WRONG_MODE out of service, and changes
nothing. -/
def Obligations.WithdrawRemovesTheRecord : Prop :=
  ∀ (s : State) (r : Req) (n : Nat), s.Inv → s.Accepts r .withdrawApproach →
    (s.working = false → ∃ t, exec (.withdrawApproach r n) s = .next t ∧ s.SameButSend t ∧
      s.Replied t r .withdrawApproach .wrongMode .empty) ∧
    (s.working = true → (∃ y ∈ s.berth.queue, y.seq = n) →
      ∃ x, exec (.withdrawApproach r n) s = .next { s with
          berth := { s.berth with queue := s.berth.queue.filter (fun y => y.seq != n) }, send := x } ∧
        s.replyFrame r ReqKind.withdrawApproach.code .done .empty ∈ x.sent) ∧
    (s.working = true → (∀ y ∈ s.berth.queue, y.seq ≠ n) →
      ∃ t, exec (.withdrawApproach r n) s = .next t ∧ s.SameButSend t ∧
        s.Replied t r .withdrawApproach .notFound .empty)

/-- RESYNC_QUEUE sets the expected number as given, clears SYNC_LOST and, where asked, empties the queue;
nothing else changes. -/
def Obligations.ResyncSetsTheQueueState : Prop :=
  ∀ (s : State) (r : Req) (e : Option Nat) (c : Choice), s.Inv → s.Accepts r .resyncQueue →
    s.working = true →
    ∃ x, exec (.resyncQueue r e (.named c)) s = .next { s with
        berth := { s.berth with
          queue := if c = .yes then [] else s.berth.queue, expected := e, syncLost := false }
        send := x } ∧
      s.replyFrame r ReqKind.resyncQueue.code .done .empty ∈ x.sent

/-! ### The berth record -/

/-- Beam 0 blocking in VACANT, in NORMAL, LOCAL or EMERGENCY. With a record queued it binds the head of the
queue: it leaves the queue, its values stand in a new record with the permit of R34, its number is the
last bound and the phase is ARRIVING (R28). With the queue empty the arrival is unannounced: a record
without identity and without permit, and UNANNOUNCED_ARRIVAL. In CONFIG_FAULT and COMMISSIONING nothing is
bound and no record made: the phase is OCCUPIED_UNKNOWN, with the same alarm (R29). The alarm clauses
leave room for the TRACK_INTRUSION that R108 may raise first. -/
def Obligations.ArrivalBindsTheHeadOrIsUnannounced : Prop :=
  (∀ (s : State) (a : Approach) (rest : List Approach), s.Inv → s.powered = true →
     s.berth.phase = .vacant → (s.mode = .normal ∨ s.mode = .localMode ∨ s.mode = .emergency) →
     s.berth.queue = a :: rest → s.lines.beams.getLsbD 0 = false →
     ∃ t r, exec (.beamChange 0 true) s = .next t ∧ t.berth.phase = .arriving ∧ t.mode = s.mode ∧
       t.berth.queue = rest ∧ t.berth.lastBound = some a.seq ∧ t.berth.expected = s.berth.expected ∧
       t.berth.syncLost = s.berth.syncLost ∧ t.berth.record = some r ∧ r.trainId = some a.trainId ∧
       r.profile = some a.profile ∧ r.orientation = some a.orientation ∧ r.service = some a.service ∧
       r.approachSeq = some a.seq ∧ r.dwell = a.dwell ∧ r.announced = true ∧ r.disputed = false ∧
       r.align = .clear ∧
       r.permit = (if a.service = .stopping ∧ s.mode = .normal then .bySignalling else .notGranted) ∧
       t.lines.beams = s.lines.beams ||| 1#16 ∧ t.doors = s.doors ∧ (∀ b, t.bay b = s.bay b)) ∧
  (∀ s : State, s.Inv → s.powered = true → s.berth.phase = .vacant →
     (s.mode = .normal ∨ s.mode = .localMode ∨ s.mode = .emergency) → s.berth.queue = [] →
     s.lines.beams.getLsbD 0 = false →
     ∃ t, exec (.beamChange 0 true) s = .next t ∧ t.berth.phase = .arriving ∧
       t.berth.record = some .blank ∧ Berth.blank.permit = .notGranted ∧ Berth.blank.trainId = none ∧
       t.berth.queue = [] ∧ t.berth.lastBound = s.berth.lastBound ∧
       (s.alarms.entries.length < 47 → ∃ e ∈ t.alarms.entries,
         e.kind = .unannouncedArrival ∧ e.bay = none ∧ e.active = false ∧ e.acked = false) ∧
       t.doors = s.doors ∧ (∀ b, t.bay b = s.bay b)) ∧
  (∀ s : State, s.Inv → s.powered = true → s.berth.phase = .vacant →
     (s.mode = .configFault ∨ s.mode = .commissioning) → s.lines.beams.getLsbD 0 = false →
     ∃ t, exec (.beamChange 0 true) s = .next t ∧ t.berth.phase = .occupiedUnknown ∧
       t.mode = s.mode ∧ t.berth.record = s.berth.record ∧ t.berth.queue = s.berth.queue ∧
       t.berth.lastBound = s.berth.lastBound ∧
       (s.alarms.entries.length < 47 → ∃ e ∈ t.alarms.entries,
         e.kind = .unannouncedArrival ∧ e.bay = none ∧ e.active = false ∧ e.acked = false) ∧
       t.doors = s.doors ∧ (∀ b, t.bay b = s.bay b))

/-- IDENTIFY before the alignment (R30, R31): it fills an unannounced record, marks a matching announced
one identified, and disputes one it contradicts, which keeps its values and loses its permit. It is
compared with the values the record holds, also where CONFIRM_BERTH has set them (assumption 27). -/
def Obligations.IdentifyFillsOrDisputesTheRecord : Prop :=
  ∀ (s : State) (r : Req) (f : IdentifyFields) (o : Orientation) (b : Berth), s.Inv →
    s.Accepts r .identify → s.link.trainUp = true → s.working = true → s.berth.phase = .arriving →
    s.berth.record = some b → s.berth.pendingStop = false → b.disputed = false →
    s.profileKnown f.profile = true → f.orientation = .named o →
    (b.announced = false → ∃ t, exec (.identify r f) s = .next t ∧
      t.berth.record = some { b with
        trainId := some f.trainId, profile := some f.profile, orientation := some o
        identified := true, identifiedId := some f.trainId } ∧
      t.alarms = s.alarms ∧ t.bays = s.bays ∧ t.doors = s.doors ∧ t.berth.phase = .arriving ∧
      s.Replied t r .identify .done .empty) ∧
    (b.announced = true → b.trainId = some f.trainId → b.profile = some f.profile →
      b.orientation = some o → ∃ t, exec (.identify r f) s = .next t ∧
      t.berth.record = some { b with identified := true, identifiedId := some f.trainId } ∧
      t.alarms = s.alarms ∧ t.bays = s.bays ∧ t.doors = s.doors ∧ t.berth.phase = .arriving ∧
      s.Replied t r .identify .done .empty) ∧
    (b.announced = true →
      ¬(b.trainId = some f.trainId ∧ b.profile = some f.profile ∧ b.orientation = some o) →
      ∃ t, exec (.identify r f) s = .next t ∧
      t.berth.record = some { b with
        disputed := true, identifiedId := some f.trainId, permit := .notGranted } ∧
      t.alarms = (s.alarms.raise .identityMismatch none (some (.profiles b.profile f.profile))
        s.seconds).1 ∧
      t.bays = s.bays ∧ t.doors = s.doors ∧ t.berth.phase = .arriving ∧
      s.Replied t r .identify .done .empty)

/-- CONFIRM_OPEN grants the permit BY_STATION, or is refused as R35 states, and opens nothing. -/
def Obligations.ConfirmOpenGrantsThePermit : Prop :=
  ∀ (s : State) (r : Req), s.Inv → s.Accepts r .confirmOpen →
    (s.mode ≠ .normal ∧ s.mode ≠ .localMode ∧ s.mode ≠ .emergency →
      ∃ t, exec (.confirmOpen r) s = .next t ∧ s.SameButSend t ∧
        s.Replied t r .confirmOpen .wrongMode .empty) ∧
    (s.mode = .normal ∨ s.mode = .localMode ∨ s.mode = .emergency →
      (s.berth.phase = .vacant ∨ s.berth.phase = .departing ∨ s.berth.record = none →
        ∃ t, exec (.confirmOpen r) s = .next t ∧ s.SameButSend t ∧
          s.Replied t r .confirmOpen .wrongPhase .empty) ∧
      (∀ b, s.berth.phase ≠ .vacant → s.berth.phase ≠ .departing → s.berth.record = some b →
        (b.disputed = true → ∃ t, exec (.confirmOpen r) s = .next t ∧ s.SameButSend t ∧
          s.Replied t r .confirmOpen .wrongState .empty) ∧
        (b.disputed = false → b.permit ≠ .notGranted → ∃ t, exec (.confirmOpen r) s = .next t ∧
          s.SameButSend t ∧ s.Replied t r .confirmOpen .already .empty) ∧
        (b.disputed = false → b.permit = .notGranted → ∃ x, exec (.confirmOpen r) s = .next { s with
            berth := { s.berth with record := some { b with permit := .byStation } }, send := x } ∧
          s.replyFrame r ReqKind.confirmOpen.code .done .empty ∈ x.sent)))

/-- CONFIRM_BERTH in ARRIVING with no stop pending writes profile and orientation, ends the dispute and
IDENTITY_MISMATCH, and takes the identified train id where there is one (R31). -/
def Obligations.ConfirmBerthSettlesTheIdentity : Prop :=
  ∀ (s : State) (r : Req) (slot : Nat) (o : Orientation) (b : Berth), s.Inv →
    s.Accepts r .confirmBerth → s.working = true → s.berth.phase = .arriving →
    s.berth.record = some b → s.berth.pendingStop = false → s.profileKnown slot = true →
    ∃ x, exec (.confirmBerth r slot (.named o)) s = .next { s with
        berth := { s.berth with record := some { b with
          profile := some slot, orientation := some o, confirmed := true, disputed := false
          trainId := if b.identifiedId.isSome then b.identifiedId else b.trainId } }
        alarms := s.alarms.clear (fun e => decide (e.kind = .identityMismatch) && decide (e.bay = none))
        send := x } ∧
      s.replyFrame r ReqKind.confirmBerth.code .done .empty ∈ x.sent

/-- A stop of a settled berth, reported by the train or taken from the beams, aligns it: the record's
alignment is that of the beams, the held offset and the available bays as they stand, the phase is
ALIGNED or MISALIGNED by its outcome, and no bay and no operation changes (R44 to R47, R37). -/
def Obligations.AStopAlignsASettledBerth : Prop :=
  ∀ (s : State) (r : Req) (b : Berth) (p : Nat) (o : Orientation), s.Inv → s.working = true →
    (s.berth.phase = .arriving ∨ s.berth.phase = .occupiedUnknown) → s.berth.record = some b →
    b.disputed = false → b.profile = some p → b.orientation = some o → s.emer.evacuation = false →
    (∀ d : Option Mm, s.Accepts r .stopped → s.link.trainUp = true →
      (∀ x, d = some x → -4000 ≤ x ∧ x ≤ 4000) →
      ∃ t a, exec (.stopped r d) s = .next t ∧
        a = alignment s.content s.availableBays p o s.lines.beams
          (if d.isSome then d else s.berth.heldOffset) ∧
        t.berth.record = some { b with align := a } ∧ t.berth.phase = a.outcome.phase ∧
        t.berth.heldOffset = (if d.isSome then d else s.berth.heldOffset) ∧
        t.bays = s.bays ∧ t.doors = s.doors ∧ s.Replied t r .stopped .done .empty) ∧
    (s.powered = true → s.beamStopDue = true →
      ∃ t a, exec .beamStop s = .next t ∧
        a = alignment s.content s.availableBays p o s.lines.beams s.berth.heldOffset ∧
        t.berth.record = some { b with align := a } ∧ t.berth.phase = a.outcome.phase ∧
        t.berth.stopTaken = true ∧ t.bays = s.bays ∧ t.doors = s.doors)

/-- MOVING before an opening clears the alignment and returns to ARRIVING, or to DEPARTING where beam 0
is already clear; from SECURE_BERTHED it is the departure; no bay and no operation changes (R37, R38).
That the pattern, m, lo and hi the alignment used (R43) are cleared with the fields R37 lists is the
model's choice (assumption 53). -/
def Obligations.MovingBeforeOpeningOrAfterClosing : Prop :=
  ∀ (s : State) (r : Req) (b : Berth), s.Inv → s.Accepts r .moving → s.link.trainUp = true →
    s.working = true → s.berth.record = some b →
    (s.berth.phase = .aligned ∨ s.berth.phase = .misaligned →
      ∃ t, exec (.moving r) s = .next t ∧ t.berth.record = some { b with align := .clear } ∧
        t.berth.phase = (if s.lines.beams.getLsbD 0 then .arriving else .departing) ∧
        t.berth.heldOffset = none ∧ t.berth.pendingStop = false ∧ t.bays = s.bays ∧
        t.doors = s.doors ∧ s.Replied t r .moving .done .empty) ∧
    (s.berth.phase = .secureBerthed →
      ∃ t, exec (.moving r) s = .next t ∧ t.berth.record = some b ∧ t.berth.phase = .departing ∧
        t.berth.heldOffset = none ∧ t.bays = s.bays ∧ t.doors = s.doors ∧
        s.Replied t r .moving .done .empty)

/-- MOVING with doors open: a MOVEMENT_CLOSE of the part starts on every bay that is not LOCKED,
ISOLATED, RELEASED or FAULT, an open bay closes at NUDGE with presence disregarded, and the phase
returns to ARRIVING or DEPARTING (R77). -/
def Obligations.MovingWithDoorsOpenClosesThem : Prop :=
  ∀ (s : State) (r : Req) (b : Nat), s.Inv → s.Shaped → s.Accepts r .moving → s.link.trainUp = true →
    s.working = true →
    (s.berth.phase = .opening ∨ s.berth.phase = .opened ∨ s.berth.phase = .closing) →
    s.inTable b = true → b ≤ 24 → (s.bay b).state = some .opened →
    ∃ t, exec (.moving r) s = .next t ∧
      t.doors.operation = some ⟨.movementClose, .part, s.movementTargets, .busy, none, [], s.seconds,
        none⟩ ∧
      (t.bay b).state = some (.closing .nudge) ∧ (t.bay b).timer = some s.now ∧
      (∀ c, c ∉ s.movementTargets → t.bay c = s.bay c) ∧
      t.berth.phase = (if s.lines.beams.getLsbD 0 then .arriving else .departing) ∧
      s.Replied t r .moving .done .empty

/-- The train leaves: beam 0 clearing in ARRIVING is the departure, and DEPART_CLEAR complete retires the
berth: the record is gone and its summary stands, the phase is VACANT and every gap check is reset. The
same ends OCCUPIED_UNKNOWN, a platform without a record keeping its summary (R39 to R41, R104). That the
held offset is absent after OCCUPIED_CLEAR also where there was no record is read from R41 and R44 by
inference (assumption 37, DEDUCED). -/
def Obligations.DepartureRetiresTheBerth : Prop :=
  ∀ s : State, s.Inv → s.powered = true →
    (s.berth.phase = .arriving → s.lines.beams.getLsbD 0 = true → s.mode ≠ .startup →
      ∃ t, exec (.beamChange 0 false) s = .next t ∧ t.berth.phase = .departing ∧
        t.berth.record = s.berth.record ∧ t.berth.heldOffset = none ∧ t.bays = s.bays ∧
        t.doors = s.doors) ∧
    (∀ p, (p = .departing ∨ p = .occupiedUnknown) → s.clearDue p = true → s.Shaped →
      s.doors.count ≤ 24 →
      ∃ t, exec (if p = .departing then .departClear else .occupiedClear) s = .next t ∧
        t.berth.phase = .vacant ∧ t.berth.record = none ∧ t.berth.heldOffset = none ∧
        t.berth.summary = (if s.berth.record.isSome then s.berth.record.map Berth.summary
          else s.berth.summary) ∧
        t.berth.queue = s.berth.queue ∧ t.doors = s.doors ∧
        (∀ b, s.inTable b = true → (t.bay b).gap = .notRequired ∧ (t.bay b).state = (s.bay b).state))

/-- The dwell timer running out stops it and makes the DWELL notice, with the train id where there is one,
for the train and then for the station, each by its mask and the train only while its link is up; the
Signalling Link gets none (R42; assumption 26). That the train's frame carries the number before it goes up
is assumption 44. Nothing else changes. -/
def Obligations.DwellExpiryStopsTheTimer : Prop :=
  ∀ (s : State) (b : Berth) (m : Nat), s.Inv → s.powered = true → s.berth.record = some b →
    b.dwellFrom = some m → m + b.dwell.getD 0 * 1000 ≤ s.now →
    ∃ x, exec .dwellExpiry s = .next { s with
        berth := { s.berth with record := some { b with dwellFrom := none } }, send := x } ∧
      x = (SendState.noticeTo s.env .train (.dwell b.trainId) { s.send with sent := [] }).noticeTo s.env
        .station (.dwell b.trainId) ∧
      (s.link.trainUp = true → s.send.train.mask.dwell = true → s.send.train.folds.dwell.until_ = none →
        ⟨.train, 0, 0xF3, s.send.train.number, .notice ⟨.dwell, 0, .dwell b.trainId⟩ 0⟩ ∈ x.sent) ∧
      (s.send.station.mask.dwell = true → s.send.station.folds.dwell.until_ = none →
        ⟨.dwell, 0, .dwell b.trainId⟩ ∈ x.outbox)

/-! ### Alignment arithmetic -/

/-- Every span is built from a centre and a width by rounding half the width down; its length is the
width; the overlap of two spans is the larger of zero and what they share, zero where they touch. -/
def Obligations.SpansAndOverlaps : Prop :=
  (∀ c w : Mm, spanOf c w = (c - w / 2, c - w / 2 + w) ∧ (spanOf c w).2 - (spanOf c w).1 = w ∧
    2 * (w / 2) ≤ w ∧ w ≤ 2 * (w / 2) + 1) ∧
  spanOf (-3000) 1401 = (-3700, -2299) ∧
  (∀ l₁ r₁ l₂ r₂ : Mm, overlap (l₁, r₁) (l₂, r₂) = max 0 (min r₁ r₂ - max l₁ l₂) ∧
    0 ≤ overlap (l₁, r₁) (l₂, r₂) ∧
    (r₁ ≤ l₂ → overlap (l₁, r₁) (l₂, r₂) = 0) ∧ (r₂ ≤ l₁ → overlap (l₁, r₁) (l₂, r₂) = 0))

/-- The effective offset, centre and platform span of a door, for either orientation, beside the span of
a bay. -/
def Obligations.PlatformSpanOfADoor : Prop :=
  ∀ (p : Profile) (d : Mm) (k : Nat),
    effectiveOffset p .forward k = (p.door k).offset ∧
    effectiveOffset p .reversed k = p.length - (p.door k).offset ∧
    (∀ o, platformSpan p o d k = (d - effectiveOffset p o k - (p.door k).width / 2,
      d - effectiveOffset p o k - (p.door k).width / 2 + (p.door k).width)) ∧
    ∀ (c : Content) (b : Nat), c.baySpan b =
      ((c.bay b).centre - (c.bay b).width / 2, (c.bay b).centre - (c.bay b).width / 2 + (c.bay b).width)

/-- A stop offset of source FUSED or BEAMS lies in the beam interval of its pattern (R49). -/
def Obligations.FusedOffsetLiesInTheBeamInterval : Prop :=
  ∀ (c : Content) (p : BitVec 16) (t : Option Mm) (d : Mm) (src : Source),
    (∀ i, i < 15 → c.beam i + 20 ≤ c.beam (i + 1)) →
    (fuse c p t).d = some (d, src) → src ≠ .trainOnly →
    ∃ lo hi, coherent p = true ∧ beamInterval c (blockedCount p) = some (lo, hi) ∧ lo ≤ d ∧ d < hi

/-- A SERVED bay is available, its matched door is a door of the train whose platform span overlaps the
bay by the amount shown, that amount reaches MIN_CLEAR, and no bay of the available ones overlaps that
door more (R53 to R55). -/
def Obligations.ServedBayFitsItsDoor : Prop :=
  ∀ (c : Content) (p : Profile) (o : Orientation) (d : Mm) (avail : List Nat) (b k : Nat) (w : Mm),
    1 ≤ b → (bayMap c p o d avail)[b - 1]? = some (.served k w) →
    b ∈ avail ∧ 1 ≤ k ∧ k ≤ p.count ∧ w = overlap (c.baySpan b) (platformSpan p o d k) ∧
    p.minClear ≤ w ∧ 0 < w ∧
    ∀ b' ∈ avail, overlap (c.baySpan b') (platformSpan p o d k) ≤ w

/-- No two bays are SERVED by one door, and the inhibit list names exactly the doors 1..n that no SERVED
bay matches (R55, R56). -/
def Obligations.InhibitListIsTheRest : Prop :=
  ∀ (c : Content) (p : Profile) (o : Orientation) (d : Mm) (avail : List Nat),
    (∀ b b' k w w', 1 ≤ b → 1 ≤ b' → (bayMap c p o d avail)[b - 1]? = some (.served k w) →
      (bayMap c p o d avail)[b' - 1]? = some (.served k w') → b = b') ∧
    (∀ k, k ∈ inhibitList p.count (bayMap c p o d avail) ↔ (1 ≤ k ∧ k ≤ p.count ∧
      ¬ ∃ b w, 1 ≤ b ∧ (bayMap c p o d avail)[b - 1]? = some (.served k w)))

/-! ### Doors -/

/-- An opening request with a permit, in NORMAL or LOCAL and a phase that opens, starts an OPEN on the
SERVED bays in an opening state: the record is BUSY, each target is OPENING with its count at 0, the
phase is OPENING, and no other bay changes (R67, R68, R38). -/
def Obligations.OpenStartsOnTheServedBays : Prop :=
  ∀ (s : State) (r : Req) (b : Berth), s.Inv → s.Shaped → s.doors.count ≤ 24 →
    (s.mode = .normal ∨ s.mode = .localMode) →
    (s.berth.phase = .aligned ∨ s.berth.phase = .opened ∨ s.berth.phase = .closing ∨
      s.berth.phase = .closedProving ∨ s.berth.phase = .secureBerthed) →
    s.berth.record = some b → b.permit ≠ .notGranted → s.openTargets ≠ [] →
    (∀ i k og, (i = Instr.openRequest r ∧ k = ReqKind.openRequest ∧ og = Origin.train ∧
        s.link.trainUp = true) ∨
        (i = Instr.openStation r ∧ k = ReqKind.openStation ∧ og = Origin.supervisor) →
      s.Accepts r k →
      ∃ t, exec i s = .next t ∧ t.mode = s.mode ∧ t.berth.phase = .opening ∧
        t.doors.operation = some ⟨.openOp, og, s.openTargets, .busy, none, [], s.seconds, none⟩ ∧
        (∀ n ∈ s.openTargets, (t.bay n).state = some .opening ∧ (t.bay n).retry = 0) ∧
        (∀ n, n ∉ s.openTargets → t.bay n = s.bay n) ∧
        t.berth.record.map Berth.identity = s.berth.record.map Berth.identity ∧
        s.Replied t r k .accepted .empty)

/-- A closing request in NORMAL or LOCAL, with no close BUSY and a bay to close, starts a CLOSE: an OPEN
or OPENING bay waits in CLOSE_WAIT for a presence, is nudged at once with DOORWAY_HOLD 0, and closes at
NORMAL speed otherwise; the phase goes from OPEN or OPENING to CLOSING, and no other bay changes (R69 to
R71, R38). -/
def Obligations.CloseStartsOnTheOpenBays : Prop :=
  ∀ (s : State) (r : Req), s.Inv → s.Shaped → s.doors.count ≤ 24 →
    (s.mode = .normal ∨ s.mode = .localMode) → (s.berth.phase = .opened ∨ s.berth.phase = .opening) →
    s.closeBusy = false → s.closeTargets ≠ [] →
    (∀ i k og, (i = Instr.closeRequest r ∧ k = ReqKind.closeRequest ∧ og = Origin.train ∧
        s.link.trainUp = true) ∨
        (i = Instr.closeStation r ∧ k = ReqKind.closeStation ∧ og = s.stationOrigin) →
      s.Accepts r k →
      ∃ t, exec i s = .next t ∧ t.mode = s.mode ∧ t.berth.phase = .closing ∧
        t.doors.operation = some ⟨.closeOp, og, s.closeTargets, .busy, none, [], s.seconds, none⟩ ∧
        (∀ n ∈ s.closeTargets, (s.bay n).state = some .opened ∨ (s.bay n).state = some .opening →
          (t.bay n).state = some (if s.effectivePresence n then
            (if s.param .doorwayHold = 0 then .closing .nudge else .closeWait) else .closing .normal) ∧
          (t.bay n).timer = some s.now ∧ (t.bay n).retry = (s.bay n).retry) ∧
        (∀ n, n ∉ s.closeTargets → t.bay n = s.bay n) ∧
        s.Replied t r k .accepted .empty)

/-- RETRY_BAY on a HELD bay clears its count and starts it closing with presence honoured; CLOSE_BAY on a
HELD, OPEN or timed-out bay takes it to CLOSING (NUDGE) with its count kept; no other bay changes (R79 to
R81). -/
def Obligations.SingleBayActionsCloseOneBay : Prop :=
  ∀ (s : State) (r : Req) (b : Nat), s.Inv → s.Shaped → s.working = true → s.inTable b = true → b ≤ 24 →
    s.ownedByOperation b = false →
    (s.Accepts r .retryBay → s.bayIs b BayState.isHeld = true → ∃ t, exec (.retryBay r b) s = .next t ∧
      State.OnlyBays (· = b) s t ∧ (t.bay b).retry = 0 ∧
      (t.bay b).state = some (if s.effectivePresence b then
        (if s.param .doorwayHold = 0 then .closing .nudge else .closeWait) else .closing .normal) ∧
      s.Replied t r .retryBay .accepted .empty) ∧
    (s.Accepts r .closeBay → s.bayIs b BayState.isClosable = true → ∃ t,
      exec (.closeBay r b) s = .next t ∧ State.OnlyBays (· = b) s t ∧
      (t.bay b).retry = (s.bay b).retry ∧ (t.bay b).state = some (.closing .nudge) ∧
      (t.bay b).timer = some s.now ∧ s.Replied t r .closeBay .accepted .empty)

/-- CLEAR_USAGE clears both usage flags of the bay named, or of every bay of the table, and changes no
other field of a bay and nothing else (R82). That an absent bay names all, and the two-byte payload that
`Accepts` asks for, are the model's choice: R82 and R162 give no code for all (assumption 31). -/
def Obligations.ClearUsageClearsTheFlags : Prop :=
  ∀ (s : State) (r : Req), s.Inv → s.Shaped → s.doors.count ≤ 24 → s.Accepts r .clearUsage →
    s.mode ≠ .startup →
    (∀ b, s.inTable b = true → ∃ t, exec (.clearUsage r (some b)) s = .next t ∧
      t.bay b = { s.bay b with cycled := false, obstructed := false } ∧
      State.OnlyBays (· = b) s t ∧ t.doors = s.doors ∧ t.berth = s.berth ∧ t.alarms = s.alarms ∧
      t.secure = s.secure ∧ s.Replied t r .clearUsage .done .empty) ∧
    (∃ t, exec (.clearUsage r none) s = .next t ∧
      (∀ b, s.inTable b = true → t.bay b = { s.bay b with cycled := false, obstructed := false }) ∧
      State.OnlyBays (fun b => s.inTable b = true) s t ∧ t.doors = s.doors ∧ t.berth = s.berth ∧
      t.alarms = s.alarms ∧ t.secure = s.secure ∧ s.Replied t r .clearUsage .done .empty)

/-- The three timers that end a state of a bay, and the recovery timer: OPEN_TIMEOUT and CLOSE_TIMEOUT
take it to their FAULT with their alarm, DOORWAY_HOLD to CLOSING (NUDGE), and the recovery timer back to
LOCKED with its count at 0; no other bay changes (R68, R71, R72, R92). -/
def Obligations.BayTimersEndTheirStates : Prop :=
  ∀ (s : State) (b : Nat), s.Inv → s.Shaped → s.powered = true → 1 ≤ b → b ≤ 24 →
    (s.openTimeoutDue b = true → ∃ t, exec (.openTimeout b) s = .next t ∧ State.OnlyBays (· = b) s t ∧
      (t.bay b).state = some (.fault .openTimeout) ∧
      (s.alarms.entries.length < 48 → t.hasActive .openTimeout (some b) = true)) ∧
    (s.closeTimeoutDue b = true → ∃ t, exec (.closeTimeout b) s = .next t ∧
      State.OnlyBays (· = b) s t ∧ (t.bay b).state = some (.fault .closeTimeout) ∧
      (s.alarms.entries.length < 48 → t.hasActive .closeTimeout (some b) = true)) ∧
    (s.doorwayHoldDue b = true → ∃ t, exec (.doorwayHoldExpiry b) s = .next t ∧
      State.OnlyBays (· = b) s t ∧ (t.bay b).state = some (.closing .nudge) ∧
      (t.bay b).timer = some s.now ∧ (t.bay b).retry = (s.bay b).retry) ∧
    (s.recoveryDue b = true → ∃ t, exec (.recoveryTimerExpiry b) s = .next t ∧
      State.OnlyBays (· = b) s t ∧ (t.bay b).state = some .locked ∧ (t.bay b).retry = 0 ∧
      (t.bay b).timer = none)

/-- REOPEN_HOLD over: below RETRY_LIMIT the count goes up by one and the bay recloses by the rules of the
close that is taking it; at the limit it is HELD for OBSTRUCTION_LIMIT with its alarm (R74). -/
def Obligations.ReopenHoldReclosesOrHolds : Prop :=
  ∀ (s : State) (b : Nat), s.Inv → s.Shaped → s.powered = true → 1 ≤ b → b ≤ 24 →
    s.reopenHoldDue b = true →
    ∃ t, exec (.reopenHoldExpiry b) s = .next t ∧ State.OnlyBays (· = b) s t ∧
      ((s.bay b).retry < s.param .retryLimit → (t.bay b).retry = (s.bay b).retry + 1 ∧
        (t.bay b).state = some (if (s.bay b).closeRule.honoursPresence && s.effectivePresence b then
          (if s.param .doorwayHold = 0 then .closing .nudge else .closeWait)
          else .closing (s.bay b).closeRule.speed)) ∧
      (s.param .retryLimit ≤ (s.bay b).retry → (t.bay b).state = some (.held .obstructionLimit) ∧
        (s.alarms.entries.length < 48 → t.hasActive .obstructionHeld (some b) = true))

/-- A discrepancy that lasts DISCREPANCY_PERSIST raises PROVING_DISCREPANT, in STARTUP too, and takes the
bay to FAULT(DISCREPANT), but a RELEASED or ISOLATED bay keeps its state (R90). That a bay without a state
keeps none is the model's choice (assumption 19). -/
def Obligations.DiscrepancyTakesTheBayToFault : Prop :=
  ∀ (s : State) (b : Nat), s.Inv → s.Shaped → s.powered = true → 1 ≤ b → b ≤ 24 →
    s.discrepancyDue b = true →
    ∃ t, exec (.discrepancyTimerExpiry b) s = .next t ∧ State.OnlyBays (· = b) s t ∧
      (t.bay b).state = (s.bay b).state.map (fun x =>
        if x = .released ∨ x = .isolated then x else .fault .discrepant) ∧
      (s.alarms.entries.length < 48 → t.hasActive .provingDiscrepant (some b) = true)

/-! ### Isolation, release and evacuation -/

/-- ISOLATE_BAY of a LOCKED or FAULT bay without a request adds it to the tail of the pending list;
ISOLATION_CONCURRENCE takes it off and makes the bay ISOLATED, BY_CONCURRENCE (R143, R145). -/
def Obligations.IsolationIsRequestedAndBecomesEffective : Prop :=
  ∀ (s : State) (r : Req) (b : Nat), s.Inv → s.Shaped → s.working = true → s.inTable b = true → b ≤ 24 →
    ((s.bay b).state = some .locked ∨ ∃ why, (s.bay b).state = some (.fault why)) →
    (s.Accepts r .isolateBay → s.request b = none → s.doors.requests.length < 4 →
      s.isolatedCount + s.doors.requests.length + 1 ≤ s.param .isolationLimit →
      ∃ t, exec (.isolateBay r b) s = .next t ∧ State.OnlyBays (· = b) s t ∧
        t.doors.requests = s.doors.requests ++ [⟨b, s.seconds, s.now⟩] ∧
        t.doors.operation = s.doors.operation ∧ t.bay b = { s.bay b with isolation := .pending } ∧
        s.Replied t r .isolateBay .accepted .empty) ∧
    (s.Accepts r .isolationConcurrence → (s.request b).isSome = true →
      ∃ t, exec (.isolationConcurrence r b) s = .next t ∧ State.OnlyBays (· = b) s t ∧
        t.doors.requests = s.doors.requests.filter (fun q => q.bay != b) ∧
        (t.bay b).state = some .isolated ∧ (t.bay b).isolation = .byConcurrence ∧
        (t.bay b).retry = 0 ∧ (t.bay b).gap = (if (s.bay b).state = some .locked then .notRequired
          else (s.bay b).gap) ∧
        s.Replied t r .isolationConcurrence .done .empty)

/-- DEISOLATE_BAY of an ISOLATED bay proven fit makes it LOCKED, its count 0 and its isolation NONE; the
window running out removes a pending request and leaves the bay otherwise as it is (R148, R146). -/
def Obligations.IsolationEnds : Prop :=
  ∀ (s : State) (b : Nat), s.Inv → s.Shaped → 1 ≤ b → b ≤ 24 →
    (∀ r, s.Accepts r .deisolateBay → s.mode ≠ .startup → s.mode ≠ .configFault → s.inTable b = true →
      (s.bay b).state = some .isolated → (s.bay b).provenFit (·.iso) = true →
      ∃ t, exec (.deisolateBay r b) s = .next t ∧ State.OnlyBays (· = b) s t ∧
        (t.bay b).state = some .locked ∧ (t.bay b).isolation = .notIsolated ∧ (t.bay b).retry = 0 ∧
        s.Replied t r .deisolateBay .done .empty) ∧
    (s.powered = true → s.isolationDue b = true →
      ∃ t, exec (.isolationExpired b) s = .next t ∧ State.OnlyBays (· = b) s t ∧
        t.doors.requests = s.doors.requests.filter (fun q => q.bay != b) ∧
        t.doors.operation = s.doors.operation ∧ t.bay b = { s.bay b with isolation := .notIsolated } ∧
        (s.alarms.entries.length < 48 → ∃ e ∈ t.alarms.entries,
          e.kind = .isolationExpired ∧ e.bay = some b ∧ e.active = false ∧ e.acked = false))

/-- RESTORE_BAY of a RELEASED bay proven fit makes it LOCKED with its count 0, takes it out of the cause
set and ends BAY_RELEASED; no other bay and no mode changes (R122). -/
def Obligations.RestoreBayLocksAReleasedBay : Prop :=
  ∀ (s : State) (r : Req) (b : Nat), s.Inv → s.Shaped → b ≤ 24 → s.Accepts r .restoreBay →
    s.mode ≠ .startup → s.inTable b = true → (s.bay b).state = some .released →
    (s.bay b).provenFit (·.releases) = true →
    ∃ t, exec (.restoreBay r b) s = .next t ∧ (t.bay b).state = some .locked ∧ (t.bay b).retry = 0 ∧
      State.OnlyBays (· = b) { s with emer := { s.emer with
        released := s.emer.released.filter (fun x => x.1 != b) } } t ∧
      t.hasActive .bayReleased (some b) = false ∧ s.Replied t r .restoreBay .done .empty

/-- REARM in EMERGENCY without a cause and without a BUSY operation: the mode returns, the context and
the evac-opened flags are cleared, REARM_CLOSE starts where a bay is its target, and otherwise the gap
checks of the served locked bays are PENDING in a berthed phase, which then becomes the first of the
table of R132 that applies (R130 to R133). -/
def Obligations.RearmReturnsThePlatform : Prop :=
  ∀ (s : State) (r : Req), s.Inv → s.Shaped → s.doors.count ≤ 24 → s.Accepts r .rearm →
    s.mode = .emergency → s.noCause = true → s.busy = none →
    ∃ t, exec (.rearm r) s = .next t ∧ t.mode = s.rearmMode ∧ t.mode ≠ .emergency ∧
      t.emer.context = none ∧ t.noCause = true ∧ (∀ b, (t.bay b).evacOpened = false) ∧
      (s.rearmTargets = [] → t.doors = s.doors ∧ (∀ b, (t.bay b).state = (s.bay b).state) ∧
        (s.berth.phase.isBerthed = true → (∀ b ∈ s.rearmGaps, (t.bay b).gap = .pending) ∧
          t.berth.phase =
            if ∃ b ∈ s.servedBays, (s.bay b).state = some .opened ∨ (s.bay b).state = some .opening then
              .opened
            else if ∃ b ∈ s.servedBays, s.bayIs b BayState.isShut = false then .closing
            else if s.rearmGaps ≠ [] ∨ ∃ b ∈ s.tableBays, (s.bay b).gap.isOpen = true then
              .closedProving
            else .secureBerthed)) ∧
      (s.rearmTargets ≠ [] → t.doors.operation =
          some ⟨.rearmClose, .supervisor, s.rearmTargets, .busy, none, [], s.seconds, none⟩ ∧
        (∀ b, b ∉ s.rearmTargets → (t.bay b).state = (s.bay b).state) ∧
        (s.berth.phase.isBerthed = true → t.berth.phase = .closing)) ∧
      (s.berth.phase.isBerthed = false → t.berth.phase = s.berth.phase) ∧
      s.Replied t r .rearm .done .empty

/-- EVAC asserted in NORMAL, LOCAL or COMMISSIONING with no cause: EVACUATION joins, EMERGENCY is entered
with the context saved, and EVAC_OPEN opens the served closed bays where the phase allows. In EMERGENCY it
joins and opens so with the context standing; in CONFIG_FAULT it joins and opens nothing. EVAC released:
EVACUATION leaves and its alarm ends, and no mode, bay or operation changes (R119, R123, R124, R126, R127,
R129). -/
def Obligations.EvacuationJoinsAndLeavesTheCauseSet : Prop :=
  ∀ s : State, s.Inv → s.Shaped → s.doors.count ≤ 24 → s.powered = true →
    (s.lines.evac = false →
      ((s.mode = .normal ∨ s.mode = .localMode ∨ s.mode = .commissioning) ∧ s.noCause = true ∨
        s.mode = .emergency) →
      ∃ t, exec .evacAsserted s = .next t ∧ t.lines = { s.lines with evac := true } ∧
        t.mode = .emergency ∧ t.emer = ⟨true, s.emer.released,
          if s.mode = .emergency then s.emer.context else some s.suspend⟩ ∧
        (s.alarms.entries.length < 48 → t.hasActive .evacuation none = true) ∧
        (s.berth.phase.evacOpens = true → s.openTargets ≠ [] → t.berth.phase = .opening ∧
          t.doors.operation = some ⟨.evacOpen, .part, s.openTargets, .busy, none, [], s.seconds, none⟩ ∧
          (∀ b ∈ s.openTargets, (t.bay b).state = some .opening)) ∧
        (∀ b, s.berth.phase.evacOpens = false ∨ b ∉ s.openTargets → t.bay b = s.bay b)) ∧
    (s.lines.evac = false → s.mode = .configFault →
      ∃ t, exec .evacAsserted s = .next t ∧ t.lines = { s.lines with evac := true } ∧
        t.mode = .configFault ∧ t.emer = { s.emer with evacuation := true } ∧
        (s.alarms.entries.length < 48 → t.hasActive .evacuation none = true) ∧
        t.bays = s.bays ∧ t.doors = s.doors ∧ t.berth = s.berth) ∧
    (s.lines.evac = true → s.mode ≠ .startup →
      ∃ t, exec .evacReleased s = .next t ∧ t.lines = { s.lines with evac := false } ∧
        t.mode = s.mode ∧ t.emer = { s.emer with evacuation := false } ∧
        t.hasActive .evacuation none = false ∧ t.bays = s.bays ∧ t.doors = s.doors ∧
        t.berth = s.berth)

/-! ### The Door Bus -/

/-- A poll goes to the next bay in turn with the command of its state, HOLD in STARTUP. A missed reply
adds to the count, and the third in succession makes the node LOST, its class UNKNOWN and the bay
FAULT(NODE_LOST), but for a RELEASED or ISOLATED bay (R84, R87, R88). -/
def Obligations.PollsAndMissedReplies : Prop :=
  ∀ s : State, s.Inv → s.Shaped → s.powered = true →
    (s.bus.awaiting = none → s.bus.nextPollAt ≤ s.now →
      ∃ x, exec .poll s = .next { s with
        bus := { s.bus with
          last := some ⟨s.bus.nextBay, if s.mode = .startup then .hold else (s.bay s.bus.nextBay).command,
            (s.bay s.bus.nextBay).lastEvent⟩
          awaiting := some s.bus.nextBay
          nextPollAt := s.now + pollSlotMs
          nextBay := if s.bus.nextBay < s.bus.pollCount then s.bus.nextBay + 1 else 1 }
        send := x }) ∧
    (∀ b, s.bus.awaiting = some b → 1 ≤ b → b ≤ 24 →
      ∃ t, exec .nodeReplyMissed s = .next t ∧
        State.OnlyBays (· = b) { s with bus := { s.bus with awaiting := none } } t ∧
        ((s.bay b).missed < 2 → t.bay b = { s.bay b with missed := (s.bay b).missed + 1 }) ∧
        ((s.bay b).missed = 2 → (t.bay b).missed = 3 ∧ (t.bay b).lost = true ∧
          (t.bay b).cls = .unknown ∧
          (t.bay b).state = (s.bay b).state.map (fun x =>
            if x = .released ∨ x = .isolated then x else .fault .nodeLost) ∧
          (s.alarms.entries.length < 48 → t.hasActive .nodeLost (some b) = true)))

/-- A good reply in its slot after STARTUP: proven locked, a CLOSING bay is LOCKED, its gap check started
where one is due; not proven locked, a LOCKED bay is FAULT(UNEXPECTED_OPEN); REACHED_OPEN opens an
OPENING bay; an obstruction holds an OPENING bay or one in REOPENING (FULL), at any moment of the
reopening, and reopens a CLOSING one; a clear doorway ends
CLOSE_WAIT; the step of a TEST bay completes; a lost node returns, and locks its bay where proven locked;
ISO makes a pending isolation effective; a release contact releases the bay and enters EMERGENCY (R68,
R72, R73, R87, R91, R93, R94, R98, R101, R120, R126, R144). That an obstruction in a reopening sets
OBSTRUCTED as well is read from R82 by inference (assumption 24). So are two more clauses: a lost node's bay
that stays FAULT(NODE_LOST) has neither its discrepancy nor its recovery timer running after this first reply
(R93 against R90 and R92; assumption 18, DEDUCED), and a locking starts its gap check only where the BUSY close
is the one that took the bay (assumption 34, DEDUCED). -/
def Obligations.AGoodReplyActsOnItsBay : Prop :=
  ∀ (s : State) (r : NodeReply), s.Inv → s.Shaped → s.powered = true → s.mode ≠ .startup →
    s.bus.awaiting = some r.bay → s.inTable r.bay = true → r.bay ≤ 24 →
    ∃ t, exec (.nodeReply r) s = .next t ∧ t.bus = { s.bus with awaiting := none } ∧
      (t.bay r.bay).lastReply = some (r, s.seconds) ∧ (t.bay r.bay).cls = r.cls ∧
      (t.bay r.bay).missed = 0 ∧ (t.bay r.bay).lost = false ∧
      (t.bay r.bay).presence = r.presence ∧ (∀ c, c ≠ r.bay → t.bay c = s.bay c) ∧
      (r.releases = false → r.iso = false →
        t.mode = s.mode ∧ t.emer = s.emer ∧
        (∀ v, (s.bay r.bay).state = some (.closing v) → r.cls = .provenLocked →
          (t.bay r.bay).state = some .locked ∧ (t.bay r.bay).retry = 0 ∧
          (t.bay r.bay).gap = if s.gapCheckDue r.bay then .pending else (s.bay r.bay).gap) ∧
        ((s.bay r.bay).state = some .locked → r.cls ≠ .provenLocked →
          (t.bay r.bay).state = some (.fault .unexpectedOpen) ∧ (s.alarms.entries.length < 48 →
            t.hasActive .provingDiscrepant (some r.bay) = true)) ∧
        ((s.bay r.bay).state = some .opening → r.event = .reachedOpen →
          (s.bay r.bay).lastEvent ≠ some r.eventNo →
          (t.bay r.bay).state = some .opened ∧ (t.bay r.bay).cycled = true ∧
          (t.bay r.bay).lastEvent = some r.eventNo) ∧
        ((s.bay r.bay).state = some .opening ∨
            (∃ held, (s.bay r.bay).state = some (.reopening .full held)) →
          r.event = .obstructedOpening → (s.bay r.bay).lastEvent ≠ some r.eventNo →
          (t.bay r.bay).state = some (.held .openingBlocked) ∧ (t.bay r.bay).obstructed = true) ∧
        (∀ v, (s.bay r.bay).state = some (.closing v) → r.cls ≠ .provenLocked →
          r.event = .obstructedClosing → (s.bay r.bay).lastEvent ≠ some r.eventNo →
          (t.bay r.bay).state = some (if s.isServed r.bay = true ∧ (s.berth.phase = .opening ∨
            s.berth.phase = .opened ∨ s.berth.phase = .closing) then .reopening .full false
            else .reopening .standing true) ∧
          (t.bay r.bay).obstructed = true ∧ (t.bay r.bay).timer = some s.now) ∧
        ((s.bay r.bay).state = some .closeWait → r.presence = false →
          (t.bay r.bay).state = some (.closing .normal) ∧ (t.bay r.bay).timer = some s.now) ∧
        (∀ p x since last, (s.bay r.bay).state = some .test →
          (s.bay r.bay).step = some ⟨p, some (x, since), last⟩ →
          (x = .unlock ∧ r.cls = .closedUnlocked ∨
            x = .opening ∧ r.event = .reachedOpen ∧ (s.bay r.bay).lastEvent ≠ some r.eventNo ∨
            x = .closing ∧ r.cls = .closedUnlocked ∧ r.leaf = 0 ∨
            x = .locking ∧ r.cls = .provenLocked) →
          (t.bay r.bay).state = some .test ∧
          (t.bay r.bay).step = some ⟨x.after, none, some .complete⟩) ∧
        ((s.bay r.bay).lost = true → (s.bay r.bay).state = some (.fault .nodeLost) →
          t.hasActive .nodeLost (some r.bay) = false ∧
          (r.cls = .provenLocked →
            (t.bay r.bay).state = some .locked ∧ (t.bay r.bay).retry = 0) ∧
          (r.cls ≠ .provenLocked → (t.bay r.bay).state = some (.fault .nodeLost) ∧
            (t.bay r.bay).discrepancyFrom = none ∧ (t.bay r.bay).recoveryFrom = none))) ∧
      (r.releases = false → r.iso = true → r.cls = .provenLocked → (s.request r.bay).isSome = true →
        ((s.bay r.bay).state = some .locked ∨ ∃ why, (s.bay r.bay).state = some (.fault why)) →
        t.mode = s.mode ∧ t.emer = s.emer ∧ (t.bay r.bay).state = some .isolated ∧
        (t.bay r.bay).isolation = .byContact ∧
        t.doors.requests = s.doors.requests.filter (fun q => q.bay != r.bay)) ∧
      (r.releases = true → (s.bay r.bay).state ≠ some .released →
        (t.bay r.bay).state = some .released ∧ r.bay ∈ t.emer.released.map (·.1) ∧
        (s.noCause = true → s.mode ≠ .configFault → t.mode = .emergency))

/-- TEST_BAY_STEP takes a LOCKED bay to TEST and starts its first step, or starts the step that follows
the position of a TEST bay; the time limit fails the step and keeps the position (R94, R95). -/
def Obligations.TestStepsRunAndExpire : Prop :=
  ∀ (s : State) (b : Nat), s.Inv → s.Shaped → 1 ≤ b → b ≤ 24 →
    (∀ r, s.Accepts r .testBayStep → s.mode = .commissioning → s.inTable b = true →
      ((s.bay b).state = some .locked → (s.bay b).step = none →
        ∃ t, exec (.testBayStep r b) s = .next t ∧ State.OnlyBays (· = b) s t ∧
          (t.bay b).state = some .test ∧
          (t.bay b).step = some ⟨.locked, some (.unlock, s.now), none⟩ ∧
          s.Replied t r .testBayStep .accepted .empty) ∧
      (∀ p last, (s.bay b).state = some .test → (s.bay b).step = some ⟨p, none, last⟩ →
        ∃ t, exec (.testBayStep r b) s = .next t ∧ State.OnlyBays (· = b) s t ∧
          t.bay b = { s.bay b with step := some ⟨p, some (p.step, s.now), last⟩ } ∧
          s.Replied t r .testBayStep .accepted .empty)) ∧
    (∀ p x since last, s.powered = true → (s.bay b).step = some ⟨p, some (x, since), last⟩ →
      since + s.stepLimit x ≤ s.now →
      ∃ t, exec (.stepTimeLimitExpiry b) s = .next t ∧ State.OnlyBays (· = b) s t ∧
        t.bay b = { s.bay b with step := some ⟨p, none, some .failed⟩ })

/-! ### Sensing -/

/-- A presence of 60 s is stuck: its alarm, and a bay in CLOSE_WAIT goes to CLOSING (NUDGE). The clear run
of a gap check passes it and the occupied run fails it, with its alarm, changing nothing else of the
bay; no other bay changes (R99, R100, R102, R103). -/
def Obligations.SensorRunsDecide : Prop :=
  ∀ (s : State) (b : Nat), s.Inv → s.Shaped → s.powered = true → b ≤ 24 →
    (s.presenceStuckDue b = true → ∃ t, exec (.presenceStuck b) s = .next t ∧
      State.OnlyBays (· = b) s t ∧ (t.bay b).stuck = true ∧ t.effectivePresence b = false ∧
      (t.bay b).state = (if (s.bay b).state = some .closeWait then some (.closing .nudge)
        else (s.bay b).state) ∧
      (s.alarms.entries.length < 48 → t.hasActive .presenceStuck (some b) = true)) ∧
    (s.gapPassDue b = true → ∃ t, exec (.gapCheckPassed b) s = .next t ∧ State.OnlyBays (· = b) s t ∧
      t.bay b = { s.bay b with gap := .passed } ∧
      ((s.bay b).gap = .failed → t.hasActive .gapOccupied (some b) = false)) ∧
    (s.gapFailDue b = true → ∃ t, exec (.gapCheckFailed b) s = .next t ∧ State.OnlyBays (· = b) s t ∧
      t.bay b = { s.bay b with gap := .failed } ∧ t.secure.asserted = false ∧
      (s.alarms.entries.length < 48 → t.hasActive .gapOccupied (some b) = true))

/-- A watched zone occupied for INTRUSION_CONFIRM makes the intrusion ACTIVE and raises TRACK_INTRUSION with
its bay; every watched zone clear for 2,000 ms ends it and starts the watch afresh (R106, R107). -/
def Obligations.IntrusionIsConfirmedAndCleared : Prop :=
  ∀ s : State, s.Inv → s.Shaped → s.powered = true →
    (∀ b, b ≤ 24 → s.intrusionDue b = true → ∃ t, exec (.trackIntrusion b) s = .next t ∧
      t.sense = { s.sense with intrusion := .active, lastBay := some b } ∧
      t.alarms = (s.alarms.raise .trackIntrusion none (some (.bay b)) s.seconds).1 ∧
      t.bay b = { s.bay b with zoneConfirmed := true } ∧ (∀ c, c ≠ b → t.bay c = s.bay c) ∧
      t.berth = s.berth ∧ t.doors = s.doors ∧ t.setting = s.setting) ∧
    (s.intrusionClearDue = true → ∃ t, exec .intrusionClear s = .next t ∧
      t.sense = ⟨.clear, some s.now, s.sense.lastBay⟩ ∧ t.hasActive .trackIntrusion none = false ∧
      (∀ b, t.bay b = { s.bay b with zoneConfirmed := false }) ∧
      t.berth = s.berth ∧ t.doors = s.doors ∧ t.setting = s.setting)

/-! ### Links, notices and lines -/

/-- The loss timer takes the Train Link DOWN and discards its pending notices; with the doorways of a train
open, in NORMAL or LOCAL and no close BUSY, it raises TRAIN_LINK_LOST and closes the open bays of
disposition CLOSE (R139, R140, R69). The end of a notice interval sends the pending notice with its
fold count and starts the interval again, or makes it idle (R160). A notice for the station joins the
outbox at its tail, and a full outbox loses its head and counts it; a turn takes at most four from its
head (R151, R161). A frame sent unprompted carries the number of its port, which goes up by one (R157).
What the pending notice carries rests on assumption 39, and that the number is carried before it goes up
on assumption 44. -/
def Obligations.TrainLossNoticesAndTheOutbox : Prop :=
  (∀ s : State, s.Inv → s.Shaped → s.doors.count ≤ 24 → s.powered = true →
    (s.trainLossDue = true → s.lossConcerns = false →
      ∃ x, exec .trainLossExpiry s = .next { s with
        link := { s.link with trainUp := false }, send := x } ∧ x.train.folds = .idle) ∧
    (s.trainLossDue = true → s.lossConcerns = true → (s.mode = .normal ∨ s.mode = .localMode) →
      s.closeBusy = false → s.linklossTargets ≠ [] →
      ∃ t, exec .trainLossExpiry s = .next t ∧ t.link = { s.link with trainUp := false } ∧
        t.mode = s.mode ∧ t.berth.phase = .closing ∧ t.send.train.folds = .idle ∧
        t.doors.operation =
          some ⟨.linklossClose, .part, s.linklossTargets, .busy, none, [], s.seconds, none⟩ ∧
        (∀ b, b ∉ s.linklossTargets → t.bay b = s.bay b) ∧
        (s.alarms.entries.length < 48 → t.hasActive .trainLinkLost none = true)) ∧
    (∀ p c f, s.intervalOver p c = some f →
      ∃ x, exec (.noticeIntervalEnd p c) s = .next { s with send := x } ∧
        (x.port p).folds.get c = some (if f.latest.isSome then
          ⟨some (s.now + s.param .noticeInterval), none, 0⟩ else .idle) ∧
        (∀ y, f.latest = some y → if p = .station then ⟨c, f.count, s.refresh y⟩ ∈ x.outbox else
          ∃ g ∈ x.sent, g.port = p ∧ g.body = .notice ⟨c, f.count, s.refresh y⟩ 0))) ∧
  (∀ (d : SendState) (n : Notice),
    (d.outbox.length < 16 → (d.queueNotice n).outbox = d.outbox ++ [n] ∧
      (d.queueNotice n).lost = d.lost) ∧
    (d.outbox.length = 16 → (d.queueNotice n).outbox = d.outbox.tail ++ [n] ∧
      (d.queueNotice n).lost = min 255 (d.lost + 1))) ∧
  (∀ (d : SendState) (a : Nat), (d.turn a 4).outbox = d.outbox.drop 4 ∧
    (d.turn a 4).lost = (if d.outbox = [] then d.lost else 0) ∧
    (d.turn a 4).sent.map (·.body) = d.sent.map (·.body) ++ (d.outbox.take 4).zipWith Body.notice
      [d.lost, 0, 0, 0]) ∧
  (∀ (d : SendState) (p : Port) (a k : Nat) (b : Body),
    (d.unsolicited p a k b).sent = d.sent ++ [⟨p, a, k, (d.port p).number, b⟩] ∧
    ((d.unsolicited p a k b).port p).number = ((d.port p).number + 1) % 256)

/-- KEY sets the authority level; the strap lines have no effect on a running part; a readback runs or
stops the disagreement timer of its channel. A disagreement of 100 ms latches the channel, raises
OUTPUT_FAULT and takes both drives off; where both channels have reached the limit the latch names both and
the alarm is raised for each, in that order (R115, R116, R151, R153; assumption 59), its detail with the
drive before both fell (assumption 67). -/
def Obligations.LinesActAsTheirRulesSay : Prop :=
  ∀ s : State, s.Inv → s.powered = true →
    (∀ k, ∃ x, exec (.keyChange k) s = .next { s with
      lines := { s.lines with key := k }, link := { s.link with supervisor := k }, send := x }) ∧
    (∀ a, ∃ x, exec (.addrChange a) s = .next { s with
      lines := { s.lines with addr := a }, send := x }) ∧
    (∀ v, ∃ x, exec (.readbackChange .a v) s = .next { s with
      lines := { s.lines with readbackA := v }
      secure := { s.secure with disagreeA :=
        if v = s.secure.driveA then none else some (s.secure.disagreeA.getD s.now) }
      send := x }) ∧
    (∀ v, ∃ x, exec (.readbackChange .b v) s = .next { s with
      lines := { s.lines with readbackB := v }
      secure := { s.secure with disagreeB :=
        if v = s.secure.driveB then none else some (s.secure.disagreeB.getD s.now) }
      send := x }) ∧
    (∀ c, s.outputFaultDue c = true → ∃ t, exec (.outputFault c) s = .next t ∧
      t.secure.names c = true ∧
      (s.outputFaultDue (otherChannel c) = true → t.secure.names (otherChannel c) = true) ∧
      t.secure.reasons.outputFault = true ∧ t.secure.asserted = false ∧
      t.secure.driveA = false ∧ t.secure.driveB = false ∧ t.setting = s.setting ∧
      t.berth = s.berth ∧ t.bays = s.bays ∧ t.doors = s.doors ∧
      t.alarms = (if s.outputFaultDue (otherChannel c) = true then
        ((s.alarms.raise .outputFault none (some (s.latchDetail c)) s.seconds).1.raise .outputFault none
          (some (s.latchDetail (otherChannel c))) s.seconds).1
        else (s.alarms.raise .outputFault none (some (s.latchDetail c)) s.seconds).1))

/-! ### The Alarm List and the notice masks -/

/-- ACK_NEXT acknowledges the oldest unacknowledged entry, NOT_FOUND where there is none; a TRACK_INTRUSION
so acknowledged ends a FROZEN intrusion with its alarm, and a VACANT platform is watched afresh (R107,
R108). PURGE_ALARMS removes every acknowledged CLEARED entry and answers how many; while FROZEN without an
unacknowledged TRACK_INTRUSION entry it is raised again (R108). SET_NOTICE_MASK replaces the mask of a
port, a class removed losing its pending notice, INVALID_ARGUMENT for a port or class outside the list
(R159, R168). That the reply to ACK_NEXT shows a FROZEN intrusion's entry as it stood before the intrusion
it ends cleared it, still ACTIVE, is read from R168 by inference (assumption 30). -/
def Obligations.AlarmRequestsAndMasks : Prop :=
  ∀ (s : State) (r : Req), s.Inv →
    (s.Accepts r .ackNext →
      (∀ pre e post, s.alarms.entries = pre ++ e :: post → (∀ x ∈ pre, x.acked = true) →
        e.acked = false → (e.kind ≠ .trackIntrusion ∨ s.sense.intrusion ≠ .frozen) →
        ∃ x, exec (.ackNext r) s = .next { s with
            alarms := { s.alarms with entries := pre ++ { e with acked := true } :: post }
            send := x } ∧
          s.replyFrame r ReqKind.ackNext.code .done (.entry { e with acked := true }) ∈ x.sent) ∧
      (∀ pre e post, s.alarms.entries = pre ++ e :: post → (∀ x ∈ pre, x.acked = true) →
        e.acked = false → e.kind = .trackIntrusion → s.sense.intrusion = .frozen →
        ∃ t, exec (.ackNext r) s = .next t ∧
          t.sense = { s.sense with
            intrusion := .clear
            watchStart := if s.berth.phase = .vacant then some s.now else s.sense.watchStart } ∧
          t.hasActive .trackIntrusion none = false ∧
          t.alarms.entries.map (·.acked) =
            (pre ++ { e with acked := true } :: post).map (·.acked) ∧
          t.berth = s.berth ∧ t.doors = s.doors ∧ t.setting = s.setting ∧
          s.Replied t r .ackNext .done (.entry { e with acked := true })) ∧
      ((∀ e ∈ s.alarms.entries, e.acked = true) → ∃ t, exec (.ackNext r) s = .next t ∧
        s.SameButSend t ∧ s.Replied t r .ackNext .notFound .empty)) ∧
    (s.Accepts r .purgeAlarms → ∀ a : AlarmState,
      a = ⟨s.alarms.entries.filter (fun e => !(e.acked && !e.active)),
        s.alarms.overflow && decide
          (48 ≤ (s.alarms.entries.filter (fun e => !(e.acked && !e.active))).length)⟩ →
      ∃ x, exec (.purgeAlarms r) s = .next { s with
          alarms := if s.sense.intrusion = .frozen ∧ ¬ (∃ e ∈ s.alarms.entries,
              e.acked = false ∧ e.kind = .trackIntrusion ∧ e.bay = none) then
            (a.raise .trackIntrusion none (s.sense.lastBay.map AlarmDetail.bay) s.seconds).1 else a
          send := x } ∧
        s.replyFrame r ReqKind.purgeAlarms.code .done
          (.purged (s.alarms.entries.filter (fun e => e.acked && !e.active)).length) ∈ x.sent) ∧
    (s.Accepts r .setNoticeMask → ∀ p c,
      (∀ q m, p = .named q → ClassSet.ofByte c = some m →
        ∃ t, exec (.setNoticeMask r p c) s = .next t ∧ s.SameButSend t ∧ (t.send.port q).mask = m ∧
          (∀ q', q' ≠ q → (t.send.port q').mask = (s.send.port q').mask) ∧
          (∀ d : NoticeClass, d.isFolded = true → (t.send.port q).folds.get d =
            if (s.send.port q).mask.has d = true ∧ m.has d = false then some .idle
            else (s.send.port q).folds.get d) ∧
          s.Replied t r .setNoticeMask .done .empty) ∧
      (p = .outside ∨ c.getLsbD 7 = true → ∃ t, exec (.setNoticeMask r p c) s = .next t ∧
        s.SameButSend t ∧ s.Replied t r .setNoticeMask .invalidArgument .empty))

/-! ### Commissioning, the store and the load -/

/-- ENTER_COMMISSIONING from a VACANT platform at rest, or from CONFIG_FAULT without a cause, copies the
image into the working copy and enters COMMISSIONING; no bay, operation or berth changes (R173). The
three writes change the one item they name in that copy, the values brought into their ranges, answer
CLAMPED where one was and DONE otherwise, and change nothing else; one that names no item is answered
INVALID_ARGUMENT (R174). The length of a WRITE_PROFILE rests on assumption 55, that of a WRITE_PARAMETERS
whose position names no parameter, two or three bytes, on assumption 9. -/
def Obligations.CommissioningWorksOnACopy : Prop :=
  (∀ (s : State) (r : Req), s.Inv → s.Accepts r .enterCommissioning →
     ((s.mode = .normal ∨ s.mode = .localMode) ∧ s.berth.phase = .vacant ∧
         (∀ b, s.inTable b = true → s.bayIs b BayState.isShut = true) ∧ s.busy = none ∨
       s.mode = .configFault ∧ s.noCause = true) →
     ∃ t, exec (.enterCommissioning r) s = .next t ∧ t.mode = .commissioning ∧
       t.store = { s.store with working := some s.store.image } ∧ t.bays = s.bays ∧
       t.doors = s.doors ∧ t.berth = s.berth ∧ t.secure.asserted = false ∧
       s.Replied t r .enterCommissioning .done .empty) ∧
  (∀ (s : State) (r : Req) (w : Content), s.Inv → s.mode = .commissioning → s.store.commit = .idle →
    s.store.working = some w →
    (∀ f, s.Accepts r .writeGeometry →
      (writeGeometry f w = none → ∃ t, exec (.writeGeometry r f) s = .next t ∧ s.SameButSend t ∧
        s.Replied t r .writeGeometry .invalidArgument .empty) ∧
      (∀ w' clamped, writeGeometry f w = some (w', clamped) → ∃ x, exec (.writeGeometry r f) s = .next { s with
          store := { s.store with working := some w' }, send := x } ∧
        s.replyFrame r ReqKind.writeGeometry.code (if clamped then .clamped else .done) .empty ∈ x.sent)) ∧
    (∀ f, s.Accepts r .writeProfile →
      (writeProfile f w = none → ∃ t, exec (.writeProfile r f) s = .next t ∧ s.SameButSend t ∧
        s.Replied t r .writeProfile .invalidArgument .empty) ∧
      (∀ w' clamped, writeProfile f w = some (w', clamped) → ∃ x, exec (.writeProfile r f) s = .next { s with
          store := { s.store with working := some w' }, send := x } ∧
        s.replyFrame r ReqKind.writeProfile.code (if clamped then .clamped else .done) .empty ∈ x.sent)) ∧
    (∀ f, s.powered = true → s.otherAddress r = false →
      ReqKind.writeParameters.allows (s.authorityOf r.port) = true →
      (match Param.ofPosition f.position with
        | some p => r.len = 1 + p.bytes
        | none => r.len = 2 ∨ r.len = 3) →
      (writeParameters f w = none → ∃ t, exec (.writeParameters r f) s = .next t ∧ s.SameButSend t ∧
        s.Replied t r .writeParameters .invalidArgument .empty) ∧
      (∀ w' clamped, writeParameters f w = some (w', clamped) → ∃ x, exec (.writeParameters r f) s = .next { s with
          store := { s.store with working := some w' }, send := x } ∧
        s.replyFrame r ReqKind.writeParameters.code (if clamped then .clamped else .done) .empty ∈ x.sent))) ∧
  (∀ (w : Content) (f : GeometryFields),
     (f.item = .outside → writeGeometry f w = none) ∧
     (f.item = .named .bay → f.disposition = .outside ∨ f.number = 0 ∨ 24 < f.number →
       writeGeometry f w = none) ∧
     (f.item = .named .beam → 15 < f.number → writeGeometry f w = none) ∧
     (f.item = .named .bayCount → writeGeometry f w = some ({ w with count := max 1 (min 24 f.number) },
       decide (max 1 (min 24 f.number) ≠ f.number))) ∧
     (∀ d, f.item = .named .bay → f.disposition = .named d → 1 ≤ f.number → f.number ≤ 24 →
       writeGeometry f w = some ({ w with
           bays := w.bays.set (f.number - 1)
             { centre := max (-250000) (min 0 f.position), width := max 1200 (min 3000 f.width),
               gapClass := min 3 f.gapClass, disposition := if d = .hold then 0 else 1 } },
         decide ¬(-250000 ≤ f.position ∧ f.position ≤ 0 ∧ 1200 ≤ f.width ∧ f.width ≤ 3000 ∧
           f.gapClass ≤ 3))) ∧
     (f.item = .named .beam → f.number ≤ 15 → writeGeometry f w = some ({ w with
         beams := w.beams.set f.number (max (-2000) (min 2000 f.position)) },
       decide ¬(-2000 ≤ f.position ∧ f.position ≤ 2000)))) ∧
  (∀ (w : Content) (f : ProfileFields), 7 < f.slot ∨ 32 < f.door → writeProfile f w = none) ∧
  (∀ (w : Content) (f : ProfileFields), f.slot ≤ 7 →
     (f.door = 0 → writeProfile f w = some ({ w with
         profiles := w.profiles.modify f.slot (fun p => { p with
           count := (max 0 (min 32 f.first)).toNat
           length := max 10000 (min 250000 f.second)
           minClear := max 500 (min 1900 f.third) }) },
       decide ¬(0 ≤ f.first ∧ f.first ≤ 32 ∧ 10000 ≤ f.second ∧ f.second ≤ 250000 ∧ 500 ≤ f.third ∧
         f.third ≤ 1900))) ∧
     (1 ≤ f.door → f.door ≤ 32 → writeProfile f w = some ({ w with
         profiles := w.profiles.modify f.slot (fun p => { p with
           doors := p.doors.set (f.door - 1)
             { offset := max 0 (min 250000 f.first), width := max 900 (min 1900 f.second) } }) },
       decide ¬(0 ≤ f.first ∧ f.first ≤ 250000 ∧ 900 ≤ f.second ∧ f.second ≤ 1900)))) ∧
  (∀ (w : Content) (f : ParameterFields) (p : Param), Param.ofPosition f.position = some p →
     (p ≠ .queuePolicy → writeParameters f w = some ({ w with
         params := w.params.set p.index (max p.range.1 (min p.range.2 f.value)) },
       decide ¬(p.range.1 ≤ f.value ∧ f.value ≤ p.range.2))) ∧
     (p = .queuePolicy → f.value ≠ 0 → f.value ≠ 1 → writeParameters f w = none) ∧
     (p = .queuePolicy → f.value = 0 ∨ f.value = 1 → writeParameters f w = some ({ w with
         params := w.params.set p.index f.value }, false))) ∧
  (∀ (w : Content) (f : ParameterFields), f.position = 0 ∨ 18 < f.position →
     writeParameters f w = none)

/-- COMMIT and COMMIT_AND_EXIT of a working copy that passes the checks raise the write count and begin the
write; a violation is answered VALIDATION with its detail and writes nothing. 600 ms later the image
is the working copy with its checksum, and COMMIT_END is told with the result DONE and the write count
(R175, R176). That the write count alone changes at acceptance, image and checksum only at the end of the
write, is read from R175 by inference (assumption 13). -/
def Obligations.CommitWritesTheImage : Prop :=
  ∀ s : State, s.Inv →
    (∀ i r k e, (i = Instr.commit r ∧ k = ReqKind.commit ∧ e = false) ∨
        (i = Instr.commitAndExit r ∧ k = ReqKind.commitAndExit ∧ e = true ∧ s.testBayAstray = false) →
      s.Accepts r k → s.mode = .commissioning → s.store.commit = .idle →
      ∀ w, s.store.working = some w →
      (firstViolation w = none → (s.isolatedCount : Int) ≤ w.param .isolationLimit →
        s.store.writeCount < wearLimit →
        ∃ x, exec i s = .next { s with
            store := { s.store with
              writeCount := s.store.writeCount + 1, commit := .writing s.now e }
            send := x } ∧
          s.replyFrame r k.code .accepted .empty ∈ x.sent) ∧
      (∀ v, firstViolation w = some v → ∃ t, exec i s = .next t ∧ s.SameButSend t ∧
        s.Replied t r k .validation (.store (.violation v)))) ∧
    (∀ w since e, s.powered = true → s.store.commit = .writing since e → since + 600 ≤ s.now →
      s.store.working = some w →
      ∃ t, exec .commitWriteEnd s = .next t ∧ t.store.image = w ∧ t.store.checksum = checksumOf w ∧
        t.store.commit = .idle ∧ t.store.writeCount = s.store.writeCount ∧
        (e = false → t.mode = s.mode ∧ t.store.working = some w ∧ t.bays = s.bays ∧
          t.send = SendState.notice s.env (.commitEnd .done s.store.writeCount)
            { s.send with sent := [] }) ∧
        (e = true → s.mode = .commissioning → t.mode = .startup ∧ t.store.working = none ∧
          t.store.loadDetail = checkImage w (checksumOf w)))

/-- POWER_ON, RESTART and EXIT_COMMISSIONING enter STARTUP: no queue, no record, no cause, no operation,
secure withheld for MODE and both drives off, the image checked; a restart raises RESTART, where the
list has room, and a power-on empties the Alarm List. POWER_LOSS turns both drives off and, during a commit write, leaves
image and checksum free (R114, R169, R172, R175, R176; section 12.4). That the phase stands VACANT in
STARTUP is the model's choice (assumption 3), and so are what a torn write leaves (assumption 7), a
POWER_ON of a part that has its supply (assumption 12) and that a POWER_ON leaves no content in force
(assumption 21); that a POWER_LOSS outside a write leaves the store as it stands, with the working copy
and the content in force, is an inference (assumption 11). -/
def Obligations.EnteringStartupAndLosingTheSupply : Prop :=
  ∀ s : State, s.Inv →
    (∀ i r, i = Instr.powerOn ∨
        (i = Instr.restart r ∧ s.Accepts r .restart ∧ s.mode ≠ .startup ∧ s.isWriting = false) ∨
        (i = Instr.exitCommissioning r ∧ s.Accepts r .exitCommissioning ∧ s.mode = .commissioning ∧
          s.testBayAstray = false ∧ s.isWriting = false) →
      ∃ t, exec i s = .next t ∧ t.powered = true ∧ t.mode = .startup ∧ t.berth = .initial ∧
        t.doors.operation = none ∧ t.doors.requests = [] ∧ t.emer = ⟨false, [], none⟩ ∧
        t.sense = ⟨.clear, none, none⟩ ∧ t.secure.asserted = false ∧ t.secure.reasons.mode = true ∧
        t.secure.driveA = false ∧ t.secure.driveB = false ∧ t.store.working = none ∧
        t.store.image = s.store.image ∧
        t.store.loadDetail = checkImage s.store.image s.store.checksum ∧
        (i = Instr.powerOn → t.alarms = ⟨[], false⟩ ∧ t.now = 0 ∧ t.store.inForce = none) ∧
        (i = Instr.restart r → t.now = 0 ∧ (s.alarms.entries.length < 48 →
          ∃ e ∈ t.alarms.entries, e.kind = .restart ∧ e.active = false ∧ e.acked = false)) ∧
        (i = Instr.exitCommissioning r → t.now = s.now)) ∧
    (s.powered = true → ∃ t, exec .powerLoss s = .next t ∧ t.powered = false ∧
      t.secure.driveA = false ∧ t.secure.driveB = false ∧ t.lines = s.lines ∧
      t.store.writeCount = s.store.writeCount ∧
      (s.isWriting = false → t.store = s.store) ∧
      (s.isWriting = true → t.store.image = (Config.tornStore s.freeCount).1 ∧
        t.store.checksum = (Config.tornStore s.freeCount).2))

/-- A load whose image passed, once every polled bay has its result, puts the image in force and enters
LOCAL, or EMERGENCY where EVAC or a release contact is found; one that failed enters CONFIG_FAULT with
STORE_FAULT. The phase is VACANT where every beam is clear, else OCCUPIED_UNKNOWN (R12, R13, R27, R134,
R170, R171). -/
def Obligations.LoadsEnd : Prop :=
  ∀ s : State, s.Inv → s.Shaped → s.powered = true → s.noCause = true → s.loadEnds = true →
    (s.store.loadDetail = none → s.store.image.count ≤ 24 →
      ∃ t, exec .loadSucceeded s = .next t ∧ t.store.inForce = some s.store.image ∧
        t.doors.count = s.store.image.count ∧
        (s.lines.evac = true → t.mode = .emergency) ∧
        (∀ b r c, 1 ≤ b → b ≤ s.store.image.count → (s.bay b).recon = some (.reply r c) →
          r.releases = true → t.mode = .emergency ∧ (t.bay b).state = some .released) ∧
        (s.lines.evac = false → (∀ b r c, 1 ≤ b → b ≤ s.store.image.count →
          (s.bay b).recon = some (.reply r c) → r.releases = false) → t.mode = .localMode) ∧
        t.berth.phase = (if s.lines.beams = 0#16 then .vacant else .occupiedUnknown) ∧
        t.berth.record = none ∧ t.berth.queue = [] ∧
        (∀ b, 1 ≤ b → b ≤ s.store.image.count → (s.bay b).isolation = .notIsolated →
          (∀ r, (s.bay b).recon = some (.reply r .provenLocked) → r.releases = false →
            r.iso = false → (t.bay b).state = some .locked) ∧
          ((s.bay b).recon = some .lost → (t.bay b).state = some (.fault .nodeLost)))) ∧
    (∀ d, s.store.loadDetail = some d → s.bus.pollCount ≤ 24 →
      ∃ t, exec .loadFailed s = .next t ∧ t.store.inForce = none ∧ t.mode = .configFault ∧
        t.doors.count = s.bus.pollCount ∧
        t.berth.phase = (if s.lines.beams = 0#16 then .vacant else .occupiedUnknown) ∧
        (∀ b r c, 1 ≤ b → b ≤ s.bus.pollCount → (s.bay b).isolation = .notIsolated →
          (s.bay b).recon = some (.reply r c) → r.releases = false → (t.bay b).state =
            some (if c = .provenLocked then .locked else .fault .unexpectedOpen)) ∧
        ((∃ e ∈ t.alarms.entries, e.kind = .storeFault ∧ e.active = true ∧
          e.detail = some (.store d)) ∨ t.alarms.overflow = true))

/-! ### Frames as bytes -/

/-- A frame of a payload of at most 200 bytes, its bytes sent with none late, is received as the frame it
is: the receiver outside a frame ends with that frame good, and before its last byte with nothing
(R150, R162). -/
def Obligations.AReceivedFrameIsTheFrameSent : Prop :=
  ∀ (p : Port) (strap addr kind tag : Nat) (payload : List Byte) (times : List Millis),
    addr < 256 → kind < 256 → tag < 256 → payload.length ≤ 200 →
    times.length = payload.length + 7 →
    (∀ i, i + 1 < times.length → times.getD (i + 1) 0 ≤ times.getD i 0 + 5) →
    commandsOf p strap .outside ((frameBytes addr kind tag payload).zip times) =
      [RawFrame.command p strap ⟨natByte addr, natByte kind, natByte tag, payload⟩]
end

