-- ==== Sys2Proof/Laws/State.lean ====
section
/-!
SUPPORT. One lemma for each field a shared update of State leaves alone, and for the fields it
writes, true by unfolding, so that no proof opens a record update.
-/
namespace Sys2Proof.Machine
open Sys2Proof

@[simp] theorem State.begin_powered (s : State) : (s.begin_).powered = s.powered := rfl
@[simp] theorem State.begin_now (s : State) : (s.begin_).now = s.now := rfl
@[simp] theorem State.begin_lines (s : State) : (s.begin_).lines = s.lines := rfl
@[simp] theorem State.begin_mode (s : State) : (s.begin_).mode = s.mode := rfl
@[simp] theorem State.begin_link (s : State) : (s.begin_).link = s.link := rfl
@[simp] theorem State.begin_berth (s : State) : (s.begin_).berth = s.berth := rfl
@[simp] theorem State.begin_doors (s : State) : (s.begin_).doors = s.doors := rfl
@[simp] theorem State.begin_bays (s : State) : (s.begin_).bays = s.bays := rfl
@[simp] theorem State.begin_bus (s : State) : (s.begin_).bus = s.bus := rfl
@[simp] theorem State.begin_sense (s : State) : (s.begin_).sense = s.sense := rfl
@[simp] theorem State.begin_emer (s : State) : (s.begin_).emer = s.emer := rfl
@[simp] theorem State.begin_secure (s : State) : (s.begin_).secure = s.secure := rfl
@[simp] theorem State.begin_alarms (s : State) : (s.begin_).alarms = s.alarms := rfl
@[simp] theorem State.begin_store (s : State) : (s.begin_).store = s.store := rfl
@[simp] theorem State.begin_freeCount (s : State) : (s.begin_).freeCount = s.freeCount := rfl
@[simp] theorem State.begin_pending (s : State) : (s.begin_).pending = s.pending := rfl

@[simp] theorem State.setBay_powered (s : State) (b : Nat) (f : Bay → Bay) : (s.setBay b f).powered = s.powered := rfl
@[simp] theorem State.setBay_now (s : State) (b : Nat) (f : Bay → Bay) : (s.setBay b f).now = s.now := rfl
@[simp] theorem State.setBay_lines (s : State) (b : Nat) (f : Bay → Bay) : (s.setBay b f).lines = s.lines := rfl
@[simp] theorem State.setBay_mode (s : State) (b : Nat) (f : Bay → Bay) : (s.setBay b f).mode = s.mode := rfl
@[simp] theorem State.setBay_link (s : State) (b : Nat) (f : Bay → Bay) : (s.setBay b f).link = s.link := rfl
@[simp] theorem State.setBay_send (s : State) (b : Nat) (f : Bay → Bay) : (s.setBay b f).send = s.send := rfl
@[simp] theorem State.setBay_berth (s : State) (b : Nat) (f : Bay → Bay) : (s.setBay b f).berth = s.berth := rfl
@[simp] theorem State.setBay_doors (s : State) (b : Nat) (f : Bay → Bay) : (s.setBay b f).doors = s.doors := rfl
@[simp] theorem State.setBay_bus (s : State) (b : Nat) (f : Bay → Bay) : (s.setBay b f).bus = s.bus := rfl
@[simp] theorem State.setBay_sense (s : State) (b : Nat) (f : Bay → Bay) : (s.setBay b f).sense = s.sense := rfl
@[simp] theorem State.setBay_emer (s : State) (b : Nat) (f : Bay → Bay) : (s.setBay b f).emer = s.emer := rfl
@[simp] theorem State.setBay_secure (s : State) (b : Nat) (f : Bay → Bay) : (s.setBay b f).secure = s.secure := rfl
@[simp] theorem State.setBay_alarms (s : State) (b : Nat) (f : Bay → Bay) : (s.setBay b f).alarms = s.alarms := rfl
@[simp] theorem State.setBay_store (s : State) (b : Nat) (f : Bay → Bay) : (s.setBay b f).store = s.store := rfl
@[simp] theorem State.setBay_freeCount (s : State) (b : Nat) (f : Bay → Bay) : (s.setBay b f).freeCount = s.freeCount := rfl
@[simp] theorem State.setBay_pending (s : State) (b : Nat) (f : Bay → Bay) : (s.setBay b f).pending = s.pending := rfl

@[simp] theorem State.mapBays_powered (s : State) (f : Bay → Bay) : (s.mapBays f).powered = s.powered := rfl
@[simp] theorem State.mapBays_now (s : State) (f : Bay → Bay) : (s.mapBays f).now = s.now := rfl
@[simp] theorem State.mapBays_lines (s : State) (f : Bay → Bay) : (s.mapBays f).lines = s.lines := rfl
@[simp] theorem State.mapBays_mode (s : State) (f : Bay → Bay) : (s.mapBays f).mode = s.mode := rfl
@[simp] theorem State.mapBays_link (s : State) (f : Bay → Bay) : (s.mapBays f).link = s.link := rfl
@[simp] theorem State.mapBays_send (s : State) (f : Bay → Bay) : (s.mapBays f).send = s.send := rfl
@[simp] theorem State.mapBays_berth (s : State) (f : Bay → Bay) : (s.mapBays f).berth = s.berth := rfl
@[simp] theorem State.mapBays_doors (s : State) (f : Bay → Bay) : (s.mapBays f).doors = s.doors := rfl
@[simp] theorem State.mapBays_bus (s : State) (f : Bay → Bay) : (s.mapBays f).bus = s.bus := rfl
@[simp] theorem State.mapBays_sense (s : State) (f : Bay → Bay) : (s.mapBays f).sense = s.sense := rfl
@[simp] theorem State.mapBays_emer (s : State) (f : Bay → Bay) : (s.mapBays f).emer = s.emer := rfl
@[simp] theorem State.mapBays_secure (s : State) (f : Bay → Bay) : (s.mapBays f).secure = s.secure := rfl
@[simp] theorem State.mapBays_alarms (s : State) (f : Bay → Bay) : (s.mapBays f).alarms = s.alarms := rfl
@[simp] theorem State.mapBays_store (s : State) (f : Bay → Bay) : (s.mapBays f).store = s.store := rfl
@[simp] theorem State.mapBays_freeCount (s : State) (f : Bay → Bay) : (s.mapBays f).freeCount = s.freeCount := rfl
@[simp] theorem State.mapBays_pending (s : State) (f : Bay → Bay) : (s.mapBays f).pending = s.pending := rfl

@[simp] theorem State.setRecord_powered (s : State) (f : Berth → Berth) : (s.setRecord f).powered = s.powered := rfl
@[simp] theorem State.setRecord_now (s : State) (f : Berth → Berth) : (s.setRecord f).now = s.now := rfl
@[simp] theorem State.setRecord_lines (s : State) (f : Berth → Berth) : (s.setRecord f).lines = s.lines := rfl
@[simp] theorem State.setRecord_mode (s : State) (f : Berth → Berth) : (s.setRecord f).mode = s.mode := rfl
@[simp] theorem State.setRecord_link (s : State) (f : Berth → Berth) : (s.setRecord f).link = s.link := rfl
@[simp] theorem State.setRecord_send (s : State) (f : Berth → Berth) : (s.setRecord f).send = s.send := rfl
@[simp] theorem State.setRecord_doors (s : State) (f : Berth → Berth) : (s.setRecord f).doors = s.doors := rfl
@[simp] theorem State.setRecord_bays (s : State) (f : Berth → Berth) : (s.setRecord f).bays = s.bays := rfl
@[simp] theorem State.setRecord_bus (s : State) (f : Berth → Berth) : (s.setRecord f).bus = s.bus := rfl
@[simp] theorem State.setRecord_sense (s : State) (f : Berth → Berth) : (s.setRecord f).sense = s.sense := rfl
@[simp] theorem State.setRecord_emer (s : State) (f : Berth → Berth) : (s.setRecord f).emer = s.emer := rfl
@[simp] theorem State.setRecord_secure (s : State) (f : Berth → Berth) : (s.setRecord f).secure = s.secure := rfl
@[simp] theorem State.setRecord_alarms (s : State) (f : Berth → Berth) : (s.setRecord f).alarms = s.alarms := rfl
@[simp] theorem State.setRecord_store (s : State) (f : Berth → Berth) : (s.setRecord f).store = s.store := rfl
@[simp] theorem State.setRecord_freeCount (s : State) (f : Berth → Berth) : (s.setRecord f).freeCount = s.freeCount := rfl
@[simp] theorem State.setRecord_pending (s : State) (f : Berth → Berth) : (s.setRecord f).pending = s.pending := rfl

@[simp] theorem State.setOperation_powered (s : State) (o : Option Operation) : (s.setOperation o).powered = s.powered := rfl
@[simp] theorem State.setOperation_now (s : State) (o : Option Operation) : (s.setOperation o).now = s.now := rfl
@[simp] theorem State.setOperation_lines (s : State) (o : Option Operation) : (s.setOperation o).lines = s.lines := rfl
@[simp] theorem State.setOperation_mode (s : State) (o : Option Operation) : (s.setOperation o).mode = s.mode := rfl
@[simp] theorem State.setOperation_link (s : State) (o : Option Operation) : (s.setOperation o).link = s.link := rfl
@[simp] theorem State.setOperation_send (s : State) (o : Option Operation) : (s.setOperation o).send = s.send := rfl
@[simp] theorem State.setOperation_berth (s : State) (o : Option Operation) : (s.setOperation o).berth = s.berth := rfl
@[simp] theorem State.setOperation_bays (s : State) (o : Option Operation) : (s.setOperation o).bays = s.bays := rfl
@[simp] theorem State.setOperation_bus (s : State) (o : Option Operation) : (s.setOperation o).bus = s.bus := rfl
@[simp] theorem State.setOperation_sense (s : State) (o : Option Operation) : (s.setOperation o).sense = s.sense := rfl
@[simp] theorem State.setOperation_emer (s : State) (o : Option Operation) : (s.setOperation o).emer = s.emer := rfl
@[simp] theorem State.setOperation_secure (s : State) (o : Option Operation) : (s.setOperation o).secure = s.secure := rfl
@[simp] theorem State.setOperation_alarms (s : State) (o : Option Operation) : (s.setOperation o).alarms = s.alarms := rfl
@[simp] theorem State.setOperation_store (s : State) (o : Option Operation) : (s.setOperation o).store = s.store := rfl
@[simp] theorem State.setOperation_freeCount (s : State) (o : Option Operation) : (s.setOperation o).freeCount = s.freeCount := rfl
@[simp] theorem State.setOperation_pending (s : State) (o : Option Operation) : (s.setOperation o).pending = s.pending := rfl

@[simp] theorem State.notice_powered (s : State) (x : NoticeDetail) : (s.notice x).powered = s.powered := rfl
@[simp] theorem State.notice_now (s : State) (x : NoticeDetail) : (s.notice x).now = s.now := rfl
@[simp] theorem State.notice_lines (s : State) (x : NoticeDetail) : (s.notice x).lines = s.lines := rfl
@[simp] theorem State.notice_mode (s : State) (x : NoticeDetail) : (s.notice x).mode = s.mode := rfl
@[simp] theorem State.notice_link (s : State) (x : NoticeDetail) : (s.notice x).link = s.link := rfl
@[simp] theorem State.notice_berth (s : State) (x : NoticeDetail) : (s.notice x).berth = s.berth := rfl
@[simp] theorem State.notice_doors (s : State) (x : NoticeDetail) : (s.notice x).doors = s.doors := rfl
@[simp] theorem State.notice_bays (s : State) (x : NoticeDetail) : (s.notice x).bays = s.bays := rfl
@[simp] theorem State.notice_bus (s : State) (x : NoticeDetail) : (s.notice x).bus = s.bus := rfl
@[simp] theorem State.notice_sense (s : State) (x : NoticeDetail) : (s.notice x).sense = s.sense := rfl
@[simp] theorem State.notice_emer (s : State) (x : NoticeDetail) : (s.notice x).emer = s.emer := rfl
@[simp] theorem State.notice_secure (s : State) (x : NoticeDetail) : (s.notice x).secure = s.secure := rfl
@[simp] theorem State.notice_alarms (s : State) (x : NoticeDetail) : (s.notice x).alarms = s.alarms := rfl
@[simp] theorem State.notice_store (s : State) (x : NoticeDetail) : (s.notice x).store = s.store := rfl
@[simp] theorem State.notice_freeCount (s : State) (x : NoticeDetail) : (s.notice x).freeCount = s.freeCount := rfl
@[simp] theorem State.notice_pending (s : State) (x : NoticeDetail) : (s.notice x).pending = s.pending := rfl

@[simp] theorem State.notices_powered (s : State) (xs : List NoticeDetail) : (s.notices xs).powered = s.powered := rfl
@[simp] theorem State.notices_now (s : State) (xs : List NoticeDetail) : (s.notices xs).now = s.now := rfl
@[simp] theorem State.notices_lines (s : State) (xs : List NoticeDetail) : (s.notices xs).lines = s.lines := rfl
@[simp] theorem State.notices_mode (s : State) (xs : List NoticeDetail) : (s.notices xs).mode = s.mode := rfl
@[simp] theorem State.notices_link (s : State) (xs : List NoticeDetail) : (s.notices xs).link = s.link := rfl
@[simp] theorem State.notices_berth (s : State) (xs : List NoticeDetail) : (s.notices xs).berth = s.berth := rfl
@[simp] theorem State.notices_doors (s : State) (xs : List NoticeDetail) : (s.notices xs).doors = s.doors := rfl
@[simp] theorem State.notices_bays (s : State) (xs : List NoticeDetail) : (s.notices xs).bays = s.bays := rfl
@[simp] theorem State.notices_bus (s : State) (xs : List NoticeDetail) : (s.notices xs).bus = s.bus := rfl
@[simp] theorem State.notices_sense (s : State) (xs : List NoticeDetail) : (s.notices xs).sense = s.sense := rfl
@[simp] theorem State.notices_emer (s : State) (xs : List NoticeDetail) : (s.notices xs).emer = s.emer := rfl
@[simp] theorem State.notices_secure (s : State) (xs : List NoticeDetail) : (s.notices xs).secure = s.secure := rfl
@[simp] theorem State.notices_alarms (s : State) (xs : List NoticeDetail) : (s.notices xs).alarms = s.alarms := rfl
@[simp] theorem State.notices_store (s : State) (xs : List NoticeDetail) : (s.notices xs).store = s.store := rfl
@[simp] theorem State.notices_freeCount (s : State) (xs : List NoticeDetail) : (s.notices xs).freeCount = s.freeCount := rfl
@[simp] theorem State.notices_pending (s : State) (xs : List NoticeDetail) : (s.notices xs).pending = s.pending := rfl

@[simp] theorem State.stationNotice_powered (s : State) (x : NoticeDetail) : (s.stationNotice x).powered = s.powered := rfl
@[simp] theorem State.stationNotice_now (s : State) (x : NoticeDetail) : (s.stationNotice x).now = s.now := rfl
@[simp] theorem State.stationNotice_lines (s : State) (x : NoticeDetail) : (s.stationNotice x).lines = s.lines := rfl
@[simp] theorem State.stationNotice_mode (s : State) (x : NoticeDetail) : (s.stationNotice x).mode = s.mode := rfl
@[simp] theorem State.stationNotice_link (s : State) (x : NoticeDetail) : (s.stationNotice x).link = s.link := rfl
@[simp] theorem State.stationNotice_berth (s : State) (x : NoticeDetail) : (s.stationNotice x).berth = s.berth := rfl
@[simp] theorem State.stationNotice_doors (s : State) (x : NoticeDetail) : (s.stationNotice x).doors = s.doors := rfl
@[simp] theorem State.stationNotice_bays (s : State) (x : NoticeDetail) : (s.stationNotice x).bays = s.bays := rfl
@[simp] theorem State.stationNotice_bus (s : State) (x : NoticeDetail) : (s.stationNotice x).bus = s.bus := rfl
@[simp] theorem State.stationNotice_sense (s : State) (x : NoticeDetail) : (s.stationNotice x).sense = s.sense := rfl
@[simp] theorem State.stationNotice_emer (s : State) (x : NoticeDetail) : (s.stationNotice x).emer = s.emer := rfl
@[simp] theorem State.stationNotice_secure (s : State) (x : NoticeDetail) : (s.stationNotice x).secure = s.secure := rfl
@[simp] theorem State.stationNotice_alarms (s : State) (x : NoticeDetail) : (s.stationNotice x).alarms = s.alarms := rfl
@[simp] theorem State.stationNotice_store (s : State) (x : NoticeDetail) : (s.stationNotice x).store = s.store := rfl
@[simp] theorem State.stationNotice_freeCount (s : State) (x : NoticeDetail) : (s.stationNotice x).freeCount = s.freeCount := rfl
@[simp] theorem State.stationNotice_pending (s : State) (x : NoticeDetail) : (s.stationNotice x).pending = s.pending := rfl

@[simp] theorem State.sendStatus_powered (s : State) : (s.sendStatus).powered = s.powered := rfl
@[simp] theorem State.sendStatus_now (s : State) : (s.sendStatus).now = s.now := rfl
@[simp] theorem State.sendStatus_lines (s : State) : (s.sendStatus).lines = s.lines := rfl
@[simp] theorem State.sendStatus_mode (s : State) : (s.sendStatus).mode = s.mode := rfl
@[simp] theorem State.sendStatus_link (s : State) : (s.sendStatus).link = s.link := rfl
@[simp] theorem State.sendStatus_berth (s : State) : (s.sendStatus).berth = s.berth := rfl
@[simp] theorem State.sendStatus_doors (s : State) : (s.sendStatus).doors = s.doors := rfl
@[simp] theorem State.sendStatus_bays (s : State) : (s.sendStatus).bays = s.bays := rfl
@[simp] theorem State.sendStatus_bus (s : State) : (s.sendStatus).bus = s.bus := rfl
@[simp] theorem State.sendStatus_sense (s : State) : (s.sendStatus).sense = s.sense := rfl
@[simp] theorem State.sendStatus_emer (s : State) : (s.sendStatus).emer = s.emer := rfl
@[simp] theorem State.sendStatus_secure (s : State) : (s.sendStatus).secure = s.secure := rfl
@[simp] theorem State.sendStatus_alarms (s : State) : (s.sendStatus).alarms = s.alarms := rfl
@[simp] theorem State.sendStatus_store (s : State) : (s.sendStatus).store = s.store := rfl
@[simp] theorem State.sendStatus_freeCount (s : State) : (s.sendStatus).freeCount = s.freeCount := rfl
@[simp] theorem State.sendStatus_pending (s : State) : (s.sendStatus).pending = s.pending := rfl

@[simp] theorem State.sendBerthReport_powered (s : State) : (s.sendBerthReport).powered = s.powered := rfl
@[simp] theorem State.sendBerthReport_now (s : State) : (s.sendBerthReport).now = s.now := rfl
@[simp] theorem State.sendBerthReport_lines (s : State) : (s.sendBerthReport).lines = s.lines := rfl
@[simp] theorem State.sendBerthReport_mode (s : State) : (s.sendBerthReport).mode = s.mode := rfl
@[simp] theorem State.sendBerthReport_link (s : State) : (s.sendBerthReport).link = s.link := rfl
@[simp] theorem State.sendBerthReport_berth (s : State) : (s.sendBerthReport).berth = s.berth := rfl
@[simp] theorem State.sendBerthReport_doors (s : State) : (s.sendBerthReport).doors = s.doors := rfl
@[simp] theorem State.sendBerthReport_bays (s : State) : (s.sendBerthReport).bays = s.bays := rfl
@[simp] theorem State.sendBerthReport_bus (s : State) : (s.sendBerthReport).bus = s.bus := rfl
@[simp] theorem State.sendBerthReport_sense (s : State) : (s.sendBerthReport).sense = s.sense := rfl
@[simp] theorem State.sendBerthReport_emer (s : State) : (s.sendBerthReport).emer = s.emer := rfl
@[simp] theorem State.sendBerthReport_secure (s : State) : (s.sendBerthReport).secure = s.secure := rfl
@[simp] theorem State.sendBerthReport_alarms (s : State) : (s.sendBerthReport).alarms = s.alarms := rfl
@[simp] theorem State.sendBerthReport_store (s : State) : (s.sendBerthReport).store = s.store := rfl
@[simp] theorem State.sendBerthReport_freeCount (s : State) : (s.sendBerthReport).freeCount = s.freeCount := rfl
@[simp] theorem State.sendBerthReport_pending (s : State) : (s.sendBerthReport).pending = s.pending := rfl

@[simp] theorem State.sendDoorReport_powered (s : State) : (s.sendDoorReport).powered = s.powered := rfl
@[simp] theorem State.sendDoorReport_now (s : State) : (s.sendDoorReport).now = s.now := rfl
@[simp] theorem State.sendDoorReport_lines (s : State) : (s.sendDoorReport).lines = s.lines := rfl
@[simp] theorem State.sendDoorReport_mode (s : State) : (s.sendDoorReport).mode = s.mode := rfl
@[simp] theorem State.sendDoorReport_link (s : State) : (s.sendDoorReport).link = s.link := rfl
@[simp] theorem State.sendDoorReport_berth (s : State) : (s.sendDoorReport).berth = s.berth := rfl
@[simp] theorem State.sendDoorReport_doors (s : State) : (s.sendDoorReport).doors = s.doors := rfl
@[simp] theorem State.sendDoorReport_bays (s : State) : (s.sendDoorReport).bays = s.bays := rfl
@[simp] theorem State.sendDoorReport_bus (s : State) : (s.sendDoorReport).bus = s.bus := rfl
@[simp] theorem State.sendDoorReport_sense (s : State) : (s.sendDoorReport).sense = s.sense := rfl
@[simp] theorem State.sendDoorReport_emer (s : State) : (s.sendDoorReport).emer = s.emer := rfl
@[simp] theorem State.sendDoorReport_secure (s : State) : (s.sendDoorReport).secure = s.secure := rfl
@[simp] theorem State.sendDoorReport_alarms (s : State) : (s.sendDoorReport).alarms = s.alarms := rfl
@[simp] theorem State.sendDoorReport_store (s : State) : (s.sendDoorReport).store = s.store := rfl
@[simp] theorem State.sendDoorReport_freeCount (s : State) : (s.sendDoorReport).freeCount = s.freeCount := rfl
@[simp] theorem State.sendDoorReport_pending (s : State) : (s.sendDoorReport).pending = s.pending := rfl

@[simp] theorem State.raise_powered (s : State) (k : AlarmKind) (b : Option Nat) (d : Option AlarmDetail) : (s.raise k b d).powered = s.powered := rfl
@[simp] theorem State.raise_now (s : State) (k : AlarmKind) (b : Option Nat) (d : Option AlarmDetail) : (s.raise k b d).now = s.now := rfl
@[simp] theorem State.raise_lines (s : State) (k : AlarmKind) (b : Option Nat) (d : Option AlarmDetail) : (s.raise k b d).lines = s.lines := rfl
@[simp] theorem State.raise_mode (s : State) (k : AlarmKind) (b : Option Nat) (d : Option AlarmDetail) : (s.raise k b d).mode = s.mode := rfl
@[simp] theorem State.raise_link (s : State) (k : AlarmKind) (b : Option Nat) (d : Option AlarmDetail) : (s.raise k b d).link = s.link := rfl
@[simp] theorem State.raise_berth (s : State) (k : AlarmKind) (b : Option Nat) (d : Option AlarmDetail) : (s.raise k b d).berth = s.berth := rfl
@[simp] theorem State.raise_doors (s : State) (k : AlarmKind) (b : Option Nat) (d : Option AlarmDetail) : (s.raise k b d).doors = s.doors := rfl
@[simp] theorem State.raise_bays (s : State) (k : AlarmKind) (b : Option Nat) (d : Option AlarmDetail) : (s.raise k b d).bays = s.bays := rfl
@[simp] theorem State.raise_bus (s : State) (k : AlarmKind) (b : Option Nat) (d : Option AlarmDetail) : (s.raise k b d).bus = s.bus := rfl
@[simp] theorem State.raise_sense (s : State) (k : AlarmKind) (b : Option Nat) (d : Option AlarmDetail) : (s.raise k b d).sense = s.sense := rfl
@[simp] theorem State.raise_emer (s : State) (k : AlarmKind) (b : Option Nat) (d : Option AlarmDetail) : (s.raise k b d).emer = s.emer := rfl
@[simp] theorem State.raise_secure (s : State) (k : AlarmKind) (b : Option Nat) (d : Option AlarmDetail) : (s.raise k b d).secure = s.secure := rfl
@[simp] theorem State.raise_store (s : State) (k : AlarmKind) (b : Option Nat) (d : Option AlarmDetail) : (s.raise k b d).store = s.store := rfl
@[simp] theorem State.raise_freeCount (s : State) (k : AlarmKind) (b : Option Nat) (d : Option AlarmDetail) : (s.raise k b d).freeCount = s.freeCount := rfl
@[simp] theorem State.raise_pending (s : State) (k : AlarmKind) (b : Option Nat) (d : Option AlarmDetail) : (s.raise k b d).pending = s.pending := rfl

@[simp] theorem State.clearWhere_powered (s : State) (p : AlarmEntry → Bool) : (s.clearWhere p).powered = s.powered := rfl
@[simp] theorem State.clearWhere_now (s : State) (p : AlarmEntry → Bool) : (s.clearWhere p).now = s.now := rfl
@[simp] theorem State.clearWhere_lines (s : State) (p : AlarmEntry → Bool) : (s.clearWhere p).lines = s.lines := rfl
@[simp] theorem State.clearWhere_mode (s : State) (p : AlarmEntry → Bool) : (s.clearWhere p).mode = s.mode := rfl
@[simp] theorem State.clearWhere_link (s : State) (p : AlarmEntry → Bool) : (s.clearWhere p).link = s.link := rfl
@[simp] theorem State.clearWhere_berth (s : State) (p : AlarmEntry → Bool) : (s.clearWhere p).berth = s.berth := rfl
@[simp] theorem State.clearWhere_doors (s : State) (p : AlarmEntry → Bool) : (s.clearWhere p).doors = s.doors := rfl
@[simp] theorem State.clearWhere_bays (s : State) (p : AlarmEntry → Bool) : (s.clearWhere p).bays = s.bays := rfl
@[simp] theorem State.clearWhere_bus (s : State) (p : AlarmEntry → Bool) : (s.clearWhere p).bus = s.bus := rfl
@[simp] theorem State.clearWhere_sense (s : State) (p : AlarmEntry → Bool) : (s.clearWhere p).sense = s.sense := rfl
@[simp] theorem State.clearWhere_emer (s : State) (p : AlarmEntry → Bool) : (s.clearWhere p).emer = s.emer := rfl
@[simp] theorem State.clearWhere_secure (s : State) (p : AlarmEntry → Bool) : (s.clearWhere p).secure = s.secure := rfl
@[simp] theorem State.clearWhere_store (s : State) (p : AlarmEntry → Bool) : (s.clearWhere p).store = s.store := rfl
@[simp] theorem State.clearWhere_freeCount (s : State) (p : AlarmEntry → Bool) : (s.clearWhere p).freeCount = s.freeCount := rfl
@[simp] theorem State.clearWhere_pending (s : State) (p : AlarmEntry → Bool) : (s.clearWhere p).pending = s.pending := rfl

@[simp] theorem State.clear_powered (s : State) (k : AlarmKind) (b : Option Nat) : (s.clear k b).powered = s.powered := rfl
@[simp] theorem State.clear_now (s : State) (k : AlarmKind) (b : Option Nat) : (s.clear k b).now = s.now := rfl
@[simp] theorem State.clear_lines (s : State) (k : AlarmKind) (b : Option Nat) : (s.clear k b).lines = s.lines := rfl
@[simp] theorem State.clear_mode (s : State) (k : AlarmKind) (b : Option Nat) : (s.clear k b).mode = s.mode := rfl
@[simp] theorem State.clear_link (s : State) (k : AlarmKind) (b : Option Nat) : (s.clear k b).link = s.link := rfl
@[simp] theorem State.clear_berth (s : State) (k : AlarmKind) (b : Option Nat) : (s.clear k b).berth = s.berth := rfl
@[simp] theorem State.clear_doors (s : State) (k : AlarmKind) (b : Option Nat) : (s.clear k b).doors = s.doors := rfl
@[simp] theorem State.clear_bays (s : State) (k : AlarmKind) (b : Option Nat) : (s.clear k b).bays = s.bays := rfl
@[simp] theorem State.clear_bus (s : State) (k : AlarmKind) (b : Option Nat) : (s.clear k b).bus = s.bus := rfl
@[simp] theorem State.clear_sense (s : State) (k : AlarmKind) (b : Option Nat) : (s.clear k b).sense = s.sense := rfl
@[simp] theorem State.clear_emer (s : State) (k : AlarmKind) (b : Option Nat) : (s.clear k b).emer = s.emer := rfl
@[simp] theorem State.clear_secure (s : State) (k : AlarmKind) (b : Option Nat) : (s.clear k b).secure = s.secure := rfl
@[simp] theorem State.clear_store (s : State) (k : AlarmKind) (b : Option Nat) : (s.clear k b).store = s.store := rfl
@[simp] theorem State.clear_freeCount (s : State) (k : AlarmKind) (b : Option Nat) : (s.clear k b).freeCount = s.freeCount := rfl
@[simp] theorem State.clear_pending (s : State) (k : AlarmKind) (b : Option Nat) : (s.clear k b).pending = s.pending := rfl

@[simp] theorem State.gapNotice_powered (s : State) (b : Nat) : (s.gapNotice b).powered = s.powered := rfl
@[simp] theorem State.gapNotice_now (s : State) (b : Nat) : (s.gapNotice b).now = s.now := rfl
@[simp] theorem State.gapNotice_lines (s : State) (b : Nat) : (s.gapNotice b).lines = s.lines := rfl
@[simp] theorem State.gapNotice_mode (s : State) (b : Nat) : (s.gapNotice b).mode = s.mode := rfl
@[simp] theorem State.gapNotice_link (s : State) (b : Nat) : (s.gapNotice b).link = s.link := rfl
@[simp] theorem State.gapNotice_berth (s : State) (b : Nat) : (s.gapNotice b).berth = s.berth := rfl
@[simp] theorem State.gapNotice_doors (s : State) (b : Nat) : (s.gapNotice b).doors = s.doors := rfl
@[simp] theorem State.gapNotice_bays (s : State) (b : Nat) : (s.gapNotice b).bays = s.bays := rfl
@[simp] theorem State.gapNotice_bus (s : State) (b : Nat) : (s.gapNotice b).bus = s.bus := rfl
@[simp] theorem State.gapNotice_sense (s : State) (b : Nat) : (s.gapNotice b).sense = s.sense := rfl
@[simp] theorem State.gapNotice_emer (s : State) (b : Nat) : (s.gapNotice b).emer = s.emer := rfl
@[simp] theorem State.gapNotice_secure (s : State) (b : Nat) : (s.gapNotice b).secure = s.secure := rfl
@[simp] theorem State.gapNotice_alarms (s : State) (b : Nat) : (s.gapNotice b).alarms = s.alarms := rfl
@[simp] theorem State.gapNotice_store (s : State) (b : Nat) : (s.gapNotice b).store = s.store := rfl
@[simp] theorem State.gapNotice_freeCount (s : State) (b : Nat) : (s.gapNotice b).freeCount = s.freeCount := rfl
@[simp] theorem State.gapNotice_pending (s : State) (b : Nat) : (s.gapNotice b).pending = s.pending := rfl

@[simp] theorem State.startGap_powered (s : State) (b : Nat) : (s.startGap b).powered = s.powered := rfl
@[simp] theorem State.startGap_now (s : State) (b : Nat) : (s.startGap b).now = s.now := rfl
@[simp] theorem State.startGap_lines (s : State) (b : Nat) : (s.startGap b).lines = s.lines := rfl
@[simp] theorem State.startGap_mode (s : State) (b : Nat) : (s.startGap b).mode = s.mode := rfl
@[simp] theorem State.startGap_link (s : State) (b : Nat) : (s.startGap b).link = s.link := rfl
@[simp] theorem State.startGap_send (s : State) (b : Nat) : (s.startGap b).send = s.send := rfl
@[simp] theorem State.startGap_berth (s : State) (b : Nat) : (s.startGap b).berth = s.berth := rfl
@[simp] theorem State.startGap_doors (s : State) (b : Nat) : (s.startGap b).doors = s.doors := rfl
@[simp] theorem State.startGap_bus (s : State) (b : Nat) : (s.startGap b).bus = s.bus := rfl
@[simp] theorem State.startGap_sense (s : State) (b : Nat) : (s.startGap b).sense = s.sense := rfl
@[simp] theorem State.startGap_emer (s : State) (b : Nat) : (s.startGap b).emer = s.emer := rfl
@[simp] theorem State.startGap_secure (s : State) (b : Nat) : (s.startGap b).secure = s.secure := rfl
@[simp] theorem State.startGap_alarms (s : State) (b : Nat) : (s.startGap b).alarms = s.alarms := rfl
@[simp] theorem State.startGap_store (s : State) (b : Nat) : (s.startGap b).store = s.store := rfl
@[simp] theorem State.startGap_freeCount (s : State) (b : Nat) : (s.startGap b).freeCount = s.freeCount := rfl
@[simp] theorem State.startGap_pending (s : State) (b : Nat) : (s.startGap b).pending = s.pending := rfl

@[simp] theorem State.startWatch_powered (s : State) : (s.startWatch).powered = s.powered := rfl
@[simp] theorem State.startWatch_now (s : State) : (s.startWatch).now = s.now := rfl
@[simp] theorem State.startWatch_lines (s : State) : (s.startWatch).lines = s.lines := rfl
@[simp] theorem State.startWatch_mode (s : State) : (s.startWatch).mode = s.mode := rfl
@[simp] theorem State.startWatch_link (s : State) : (s.startWatch).link = s.link := rfl
@[simp] theorem State.startWatch_send (s : State) : (s.startWatch).send = s.send := rfl
@[simp] theorem State.startWatch_berth (s : State) : (s.startWatch).berth = s.berth := rfl
@[simp] theorem State.startWatch_doors (s : State) : (s.startWatch).doors = s.doors := rfl
@[simp] theorem State.startWatch_bus (s : State) : (s.startWatch).bus = s.bus := rfl
@[simp] theorem State.startWatch_emer (s : State) : (s.startWatch).emer = s.emer := rfl
@[simp] theorem State.startWatch_secure (s : State) : (s.startWatch).secure = s.secure := rfl
@[simp] theorem State.startWatch_alarms (s : State) : (s.startWatch).alarms = s.alarms := rfl
@[simp] theorem State.startWatch_store (s : State) : (s.startWatch).store = s.store := rfl
@[simp] theorem State.startWatch_freeCount (s : State) : (s.startWatch).freeCount = s.freeCount := rfl
@[simp] theorem State.startWatch_pending (s : State) : (s.startWatch).pending = s.pending := rfl

@[simp] theorem State.sendReply_powered (s : State) (n : Nat) (f : Frame) : (s.sendReply n f).powered = s.powered := rfl
@[simp] theorem State.sendReply_now (s : State) (n : Nat) (f : Frame) : (s.sendReply n f).now = s.now := rfl
@[simp] theorem State.sendReply_lines (s : State) (n : Nat) (f : Frame) : (s.sendReply n f).lines = s.lines := rfl
@[simp] theorem State.sendReply_mode (s : State) (n : Nat) (f : Frame) : (s.sendReply n f).mode = s.mode := rfl
@[simp] theorem State.sendReply_link (s : State) (n : Nat) (f : Frame) : (s.sendReply n f).link = s.link := rfl
@[simp] theorem State.sendReply_berth (s : State) (n : Nat) (f : Frame) : (s.sendReply n f).berth = s.berth := rfl
@[simp] theorem State.sendReply_doors (s : State) (n : Nat) (f : Frame) : (s.sendReply n f).doors = s.doors := rfl
@[simp] theorem State.sendReply_bays (s : State) (n : Nat) (f : Frame) : (s.sendReply n f).bays = s.bays := rfl
@[simp] theorem State.sendReply_bus (s : State) (n : Nat) (f : Frame) : (s.sendReply n f).bus = s.bus := rfl
@[simp] theorem State.sendReply_sense (s : State) (n : Nat) (f : Frame) : (s.sendReply n f).sense = s.sense := rfl
@[simp] theorem State.sendReply_emer (s : State) (n : Nat) (f : Frame) : (s.sendReply n f).emer = s.emer := rfl
@[simp] theorem State.sendReply_secure (s : State) (n : Nat) (f : Frame) : (s.sendReply n f).secure = s.secure := rfl
@[simp] theorem State.sendReply_alarms (s : State) (n : Nat) (f : Frame) : (s.sendReply n f).alarms = s.alarms := rfl
@[simp] theorem State.sendReply_store (s : State) (n : Nat) (f : Frame) : (s.sendReply n f).store = s.store := rfl
@[simp] theorem State.sendReply_freeCount (s : State) (n : Nat) (f : Frame) : (s.sendReply n f).freeCount = s.freeCount := rfl
@[simp] theorem State.sendReply_pending (s : State) (n : Nat) (f : Frame) : (s.sendReply n f).pending = s.pending := rfl

@[simp] theorem State.evacuationNotice_powered (s : State) : (s.evacuationNotice).powered = s.powered := rfl
@[simp] theorem State.evacuationNotice_now (s : State) : (s.evacuationNotice).now = s.now := rfl
@[simp] theorem State.evacuationNotice_lines (s : State) : (s.evacuationNotice).lines = s.lines := rfl
@[simp] theorem State.evacuationNotice_mode (s : State) : (s.evacuationNotice).mode = s.mode := rfl
@[simp] theorem State.evacuationNotice_link (s : State) : (s.evacuationNotice).link = s.link := rfl
@[simp] theorem State.evacuationNotice_berth (s : State) : (s.evacuationNotice).berth = s.berth := rfl
@[simp] theorem State.evacuationNotice_doors (s : State) : (s.evacuationNotice).doors = s.doors := rfl
@[simp] theorem State.evacuationNotice_bays (s : State) : (s.evacuationNotice).bays = s.bays := rfl
@[simp] theorem State.evacuationNotice_bus (s : State) : (s.evacuationNotice).bus = s.bus := rfl
@[simp] theorem State.evacuationNotice_sense (s : State) : (s.evacuationNotice).sense = s.sense := rfl
@[simp] theorem State.evacuationNotice_emer (s : State) : (s.evacuationNotice).emer = s.emer := rfl
@[simp] theorem State.evacuationNotice_secure (s : State) : (s.evacuationNotice).secure = s.secure := rfl
@[simp] theorem State.evacuationNotice_alarms (s : State) : (s.evacuationNotice).alarms = s.alarms := rfl
@[simp] theorem State.evacuationNotice_store (s : State) : (s.evacuationNotice).store = s.store := rfl
@[simp] theorem State.evacuationNotice_freeCount (s : State) : (s.evacuationNotice).freeCount = s.freeCount := rfl
@[simp] theorem State.evacuationNotice_pending (s : State) : (s.evacuationNotice).pending = s.pending := rfl

@[simp] theorem State.dwellNotice_powered (s : State) (x : NoticeDetail) : (s.dwellNotice x).powered = s.powered := rfl
@[simp] theorem State.dwellNotice_now (s : State) (x : NoticeDetail) : (s.dwellNotice x).now = s.now := rfl
@[simp] theorem State.dwellNotice_lines (s : State) (x : NoticeDetail) : (s.dwellNotice x).lines = s.lines := rfl
@[simp] theorem State.dwellNotice_mode (s : State) (x : NoticeDetail) : (s.dwellNotice x).mode = s.mode := rfl
@[simp] theorem State.dwellNotice_link (s : State) (x : NoticeDetail) : (s.dwellNotice x).link = s.link := rfl
@[simp] theorem State.dwellNotice_berth (s : State) (x : NoticeDetail) : (s.dwellNotice x).berth = s.berth := rfl
@[simp] theorem State.dwellNotice_doors (s : State) (x : NoticeDetail) : (s.dwellNotice x).doors = s.doors := rfl
@[simp] theorem State.dwellNotice_bays (s : State) (x : NoticeDetail) : (s.dwellNotice x).bays = s.bays := rfl
@[simp] theorem State.dwellNotice_bus (s : State) (x : NoticeDetail) : (s.dwellNotice x).bus = s.bus := rfl
@[simp] theorem State.dwellNotice_sense (s : State) (x : NoticeDetail) : (s.dwellNotice x).sense = s.sense := rfl
@[simp] theorem State.dwellNotice_emer (s : State) (x : NoticeDetail) : (s.dwellNotice x).emer = s.emer := rfl
@[simp] theorem State.dwellNotice_secure (s : State) (x : NoticeDetail) : (s.dwellNotice x).secure = s.secure := rfl
@[simp] theorem State.dwellNotice_alarms (s : State) (x : NoticeDetail) : (s.dwellNotice x).alarms = s.alarms := rfl
@[simp] theorem State.dwellNotice_store (s : State) (x : NoticeDetail) : (s.dwellNotice x).store = s.store := rfl
@[simp] theorem State.dwellNotice_freeCount (s : State) (x : NoticeDetail) : (s.dwellNotice x).freeCount = s.freeCount := rfl
@[simp] theorem State.dwellNotice_pending (s : State) (x : NoticeDetail) : (s.dwellNotice x).pending = s.pending := rfl

@[simp] theorem State.openComplete_powered (s : State) : (s.openComplete).powered = s.powered := rfl
@[simp] theorem State.openComplete_now (s : State) : (s.openComplete).now = s.now := rfl
@[simp] theorem State.openComplete_lines (s : State) : (s.openComplete).lines = s.lines := rfl
@[simp] theorem State.openComplete_mode (s : State) : (s.openComplete).mode = s.mode := rfl
@[simp] theorem State.openComplete_link (s : State) : (s.openComplete).link = s.link := rfl
@[simp] theorem State.openComplete_send (s : State) : (s.openComplete).send = s.send := rfl
@[simp] theorem State.openComplete_doors (s : State) : (s.openComplete).doors = s.doors := rfl
@[simp] theorem State.openComplete_bays (s : State) : (s.openComplete).bays = s.bays := rfl
@[simp] theorem State.openComplete_bus (s : State) : (s.openComplete).bus = s.bus := rfl
@[simp] theorem State.openComplete_sense (s : State) : (s.openComplete).sense = s.sense := rfl
@[simp] theorem State.openComplete_emer (s : State) : (s.openComplete).emer = s.emer := rfl
@[simp] theorem State.openComplete_secure (s : State) : (s.openComplete).secure = s.secure := rfl
@[simp] theorem State.openComplete_alarms (s : State) : (s.openComplete).alarms = s.alarms := rfl
@[simp] theorem State.openComplete_store (s : State) : (s.openComplete).store = s.store := rfl
@[simp] theorem State.openComplete_freeCount (s : State) : (s.openComplete).freeCount = s.freeCount := rfl
@[simp] theorem State.openComplete_pending (s : State) : (s.openComplete).pending = s.pending := rfl

@[simp] theorem State.cancelDwell_powered (s : State) : (s.cancelDwell).powered = s.powered := rfl
@[simp] theorem State.cancelDwell_now (s : State) : (s.cancelDwell).now = s.now := rfl
@[simp] theorem State.cancelDwell_lines (s : State) : (s.cancelDwell).lines = s.lines := rfl
@[simp] theorem State.cancelDwell_mode (s : State) : (s.cancelDwell).mode = s.mode := rfl
@[simp] theorem State.cancelDwell_link (s : State) : (s.cancelDwell).link = s.link := rfl
@[simp] theorem State.cancelDwell_send (s : State) : (s.cancelDwell).send = s.send := rfl
@[simp] theorem State.cancelDwell_doors (s : State) : (s.cancelDwell).doors = s.doors := rfl
@[simp] theorem State.cancelDwell_bays (s : State) : (s.cancelDwell).bays = s.bays := rfl
@[simp] theorem State.cancelDwell_bus (s : State) : (s.cancelDwell).bus = s.bus := rfl
@[simp] theorem State.cancelDwell_sense (s : State) : (s.cancelDwell).sense = s.sense := rfl
@[simp] theorem State.cancelDwell_emer (s : State) : (s.cancelDwell).emer = s.emer := rfl
@[simp] theorem State.cancelDwell_secure (s : State) : (s.cancelDwell).secure = s.secure := rfl
@[simp] theorem State.cancelDwell_alarms (s : State) : (s.cancelDwell).alarms = s.alarms := rfl
@[simp] theorem State.cancelDwell_store (s : State) : (s.cancelDwell).store = s.store := rfl
@[simp] theorem State.cancelDwell_freeCount (s : State) : (s.cancelDwell).freeCount = s.freeCount := rfl
@[simp] theorem State.cancelDwell_pending (s : State) : (s.cancelDwell).pending = s.pending := rfl
@[simp] theorem State.stopDwell_powered (s : State) : (s.stopDwell).powered = s.powered := rfl
@[simp] theorem State.stopDwell_now (s : State) : (s.stopDwell).now = s.now := rfl
@[simp] theorem State.stopDwell_lines (s : State) : (s.stopDwell).lines = s.lines := rfl
@[simp] theorem State.stopDwell_mode (s : State) : (s.stopDwell).mode = s.mode := rfl
@[simp] theorem State.stopDwell_link (s : State) : (s.stopDwell).link = s.link := rfl
@[simp] theorem State.stopDwell_send (s : State) : (s.stopDwell).send = s.send := rfl
@[simp] theorem State.stopDwell_doors (s : State) : (s.stopDwell).doors = s.doors := rfl
@[simp] theorem State.stopDwell_bays (s : State) : (s.stopDwell).bays = s.bays := rfl
@[simp] theorem State.stopDwell_bus (s : State) : (s.stopDwell).bus = s.bus := rfl
@[simp] theorem State.stopDwell_sense (s : State) : (s.stopDwell).sense = s.sense := rfl
@[simp] theorem State.stopDwell_emer (s : State) : (s.stopDwell).emer = s.emer := rfl
@[simp] theorem State.stopDwell_secure (s : State) : (s.stopDwell).secure = s.secure := rfl
@[simp] theorem State.stopDwell_alarms (s : State) : (s.stopDwell).alarms = s.alarms := rfl
@[simp] theorem State.stopDwell_store (s : State) : (s.stopDwell).store = s.store := rfl
@[simp] theorem State.stopDwell_freeCount (s : State) : (s.stopDwell).freeCount = s.freeCount := rfl
@[simp] theorem State.stopDwell_pending (s : State) : (s.stopDwell).pending = s.pending := rfl

@[simp] theorem State.dropRequest_powered (s : State) (b : Nat) : (s.dropRequest b).powered = s.powered := rfl
@[simp] theorem State.dropRequest_now (s : State) (b : Nat) : (s.dropRequest b).now = s.now := rfl
@[simp] theorem State.dropRequest_lines (s : State) (b : Nat) : (s.dropRequest b).lines = s.lines := rfl
@[simp] theorem State.dropRequest_mode (s : State) (b : Nat) : (s.dropRequest b).mode = s.mode := rfl
@[simp] theorem State.dropRequest_link (s : State) (b : Nat) : (s.dropRequest b).link = s.link := rfl
@[simp] theorem State.dropRequest_send (s : State) (b : Nat) : (s.dropRequest b).send = s.send := rfl
@[simp] theorem State.dropRequest_berth (s : State) (b : Nat) : (s.dropRequest b).berth = s.berth := rfl
@[simp] theorem State.dropRequest_bus (s : State) (b : Nat) : (s.dropRequest b).bus = s.bus := rfl
@[simp] theorem State.dropRequest_sense (s : State) (b : Nat) : (s.dropRequest b).sense = s.sense := rfl
@[simp] theorem State.dropRequest_emer (s : State) (b : Nat) : (s.dropRequest b).emer = s.emer := rfl
@[simp] theorem State.dropRequest_secure (s : State) (b : Nat) : (s.dropRequest b).secure = s.secure := rfl
@[simp] theorem State.dropRequest_alarms (s : State) (b : Nat) : (s.dropRequest b).alarms = s.alarms := rfl
@[simp] theorem State.dropRequest_store (s : State) (b : Nat) : (s.dropRequest b).store = s.store := rfl
@[simp] theorem State.dropRequest_freeCount (s : State) (b : Nat) : (s.dropRequest b).freeCount = s.freeCount := rfl
@[simp] theorem State.dropRequest_pending (s : State) (b : Nat) : (s.dropRequest b).pending = s.pending := rfl

@[simp] theorem State.noteMovement_powered (s : State) : (s.noteMovement).powered = s.powered := rfl
@[simp] theorem State.noteMovement_now (s : State) : (s.noteMovement).now = s.now := rfl
@[simp] theorem State.noteMovement_lines (s : State) : (s.noteMovement).lines = s.lines := rfl
@[simp] theorem State.noteMovement_mode (s : State) : (s.noteMovement).mode = s.mode := rfl
@[simp] theorem State.noteMovement_link (s : State) : (s.noteMovement).link = s.link := rfl
@[simp] theorem State.noteMovement_send (s : State) : (s.noteMovement).send = s.send := rfl
@[simp] theorem State.noteMovement_doors (s : State) : (s.noteMovement).doors = s.doors := rfl
@[simp] theorem State.noteMovement_bays (s : State) : (s.noteMovement).bays = s.bays := rfl
@[simp] theorem State.noteMovement_bus (s : State) : (s.noteMovement).bus = s.bus := rfl
@[simp] theorem State.noteMovement_sense (s : State) : (s.noteMovement).sense = s.sense := rfl
@[simp] theorem State.noteMovement_emer (s : State) : (s.noteMovement).emer = s.emer := rfl
@[simp] theorem State.noteMovement_secure (s : State) : (s.noteMovement).secure = s.secure := rfl
@[simp] theorem State.noteMovement_alarms (s : State) : (s.noteMovement).alarms = s.alarms := rfl
@[simp] theorem State.noteMovement_store (s : State) : (s.noteMovement).store = s.store := rfl
@[simp] theorem State.noteMovement_freeCount (s : State) : (s.noteMovement).freeCount = s.freeCount := rfl
@[simp] theorem State.noteMovement_pending (s : State) : (s.noteMovement).pending = s.pending := rfl

@[simp] theorem State.latchFault_powered (s : State) (c : Channel) : (s.latchFault c).powered = s.powered := rfl
@[simp] theorem State.latchFault_now (s : State) (c : Channel) : (s.latchFault c).now = s.now := rfl
@[simp] theorem State.latchFault_lines (s : State) (c : Channel) : (s.latchFault c).lines = s.lines := rfl
@[simp] theorem State.latchFault_mode (s : State) (c : Channel) : (s.latchFault c).mode = s.mode := rfl
@[simp] theorem State.latchFault_link (s : State) (c : Channel) : (s.latchFault c).link = s.link := rfl
@[simp] theorem State.latchFault_berth (s : State) (c : Channel) : (s.latchFault c).berth = s.berth := rfl
@[simp] theorem State.latchFault_doors (s : State) (c : Channel) : (s.latchFault c).doors = s.doors := rfl
@[simp] theorem State.latchFault_bays (s : State) (c : Channel) : (s.latchFault c).bays = s.bays := rfl
@[simp] theorem State.latchFault_bus (s : State) (c : Channel) : (s.latchFault c).bus = s.bus := rfl
@[simp] theorem State.latchFault_sense (s : State) (c : Channel) : (s.latchFault c).sense = s.sense := rfl
@[simp] theorem State.latchFault_emer (s : State) (c : Channel) : (s.latchFault c).emer = s.emer := rfl
@[simp] theorem State.latchFault_store (s : State) (c : Channel) : (s.latchFault c).store = s.store := rfl
@[simp] theorem State.latchFault_freeCount (s : State) (c : Channel) : (s.latchFault c).freeCount = s.freeCount := rfl
@[simp] theorem State.latchFault_pending (s : State) (c : Channel) : (s.latchFault c).pending = s.pending := rfl
@[simp] theorem State.latchFault_secure (s : State) (c : Channel) : (s.latchFault c).secure = s.secure.latch c := rfl
@[simp] theorem State.latchFault_alarms (s : State) (c : Channel) :
    (s.latchFault c).alarms =
      (s.alarms.raise .outputFault none (some (s.latchDetail c)) s.seconds).1 := rfl

@[simp] theorem Bay.abandonTimer_state (y : Bay) : y.abandonTimer.state = y.state := rfl
@[simp] theorem Bay.abandonTimer_isolation (y : Bay) : y.abandonTimer.isolation = y.isolation := rfl
@[simp] theorem Bay.abandonTimer_recon (y : Bay) : y.abandonTimer.recon = y.recon := rfl
@[simp] theorem Bay.abandonTimer_cls (y : Bay) : y.abandonTimer.cls = y.cls := rfl
@[simp] theorem Bay.abandonTimer_discrepancyFrom (y : Bay) : y.abandonTimer.discrepancyFrom = none := rfl
@[simp] theorem Bay.abandonTimer_discrepancyTaken (y : Bay) :
    y.abandonTimer.discrepancyTaken = false := rfl

end Sys2Proof.Machine
end

