-- ==== Sys2Proof/Laws/Send.lean ====
section
/-!
SUPPORT. What the sending operations can do to the sending side (chapter 10): `SendStep` says it once,
and every operation that makes an unprompted frame or a notice is a `SendStep`.
-/
namespace Sys2Proof.Machine
open Sys2Proof

/-- The frames sent on a link by the latest step. -/
def SendState.on (p : Port) (d : SendState) : List Frame := d.sent.filter fun f => f.port == p

/-- What making unprompted frames and notices can do: no reply is added, the outbox keeps its bound
(R161), and with the Train Link DOWN nothing goes out on it and its intervals stand (R151, R158). -/
structure SendStep (up : Bool) (d x : SendState) : Prop where
  replies : x.replies = d.replies
  outbox : d.outbox.length ≤ outboxLimit → x.outbox.length ≤ outboxLimit
  quiet : up = false → x.on .train = d.on .train ∧ x.train.folds = d.train.folds

theorem SendStep.refl (up : Bool) (d : SendState) : SendStep up d d := ⟨rfl, id, fun _ => ⟨rfl, rfl⟩⟩

theorem SendStep.trans {up : Bool} {d x y : SendState} (h : SendStep up d x) (g : SendStep up x y) :
    SendStep up d y :=
  ⟨g.replies.trans h.replies, fun o => g.outbox (h.outbox o), fun u =>
    ⟨(g.quiet u).1.trans (h.quiet u).1, (g.quiet u).2.trans (h.quiet u).2⟩⟩

/-- A body that is no reply. -/
def Body.unprompted : Body → Bool
  | .reply _ _ => false
  | .platformStatus _ | .berthReport _ | .doorReport _ | .notice _ _ => true

theorem SendState.unsolicited_step {up : Bool} {p : Port} (a k : Nat) {b : Body} (d : SendState)
    (hb : b.unprompted = true) (hp : up = false → p ≠ .train) :
    SendStep up d (d.unsolicited p a k b) := by
  constructor
  · cases p <;> cases b <;> simp_all [SendState.unsolicited, SendState.push, SendState.setPort,
      SendState.replies, Frame.isReply, Body.unprompted]
  · cases p <;> simp [SendState.unsolicited, SendState.push, SendState.setPort]
  · intro u
    have := hp u
    cases p <;> simp_all [SendState.unsolicited, SendState.push, SendState.setPort, SendState.on]

theorem SendState.queueNotice_step {up : Bool} (n : Notice) (d : SendState) :
    SendStep up d (d.queueNotice n) := by
  unfold SendState.queueNotice
  split
  · exact ⟨rfl, fun _ => by simp; omega, fun _ => ⟨rfl, rfl⟩⟩
  · refine ⟨rfl, fun h => ?_, fun _ => ⟨rfl, rfl⟩⟩
    simp only [List.length_append, List.length_drop, List.length_singleton, outboxLimit] at *
    omega

theorem SendState.emit_step {up : Bool} {p : Port} (n : Notice) (d : SendState)
    (hp : up = false → p ≠ .train) : SendStep up d (d.emit p n) := by
  cases p
  · exact SendState.unsolicited_step 0 0xF3 d rfl hp
  · exact SendState.unsolicited_step 0 0xF3 d rfl hp
  · exact SendState.queueNotice_step n d

theorem SendState.setPort_step {up : Bool} {p : Port} (f : PortState → PortState) (d : SendState)
    (hp : up = false → p ≠ .train) : SendStep up d (d.setPort p f) := by
  refine ⟨by cases p <;> rfl, by cases p <;> exact id, fun u => ?_⟩
  have := hp u
  cases p <;> simp_all [SendState.setPort, SendState.on]

theorem SendState.make_step {up : Bool} {p : Port} (e : SendEnv) (x : NoticeDetail) (d : SendState)
    (hp : up = false → p ≠ .train) : SendStep up d (d.make e p x) := by
  unfold SendState.make
  split
  · exact SendState.emit_step _ d hp
  · split
    · exact (SendState.emit_step _ d hp).trans (SendState.setPort_step _ _ hp)
    · exact SendState.setPort_step _ _ hp

theorem SendState.noticeTo_step (e : SendEnv) (p : Port) (x : NoticeDetail) (d : SendState) :
    SendStep e.trainUp d (d.noticeTo e p x) := by
  unfold SendState.noticeTo
  split
  · rename_i h
    refine SendState.make_step e x d fun u hp => ?_
    subst hp
    simp [SendState.mayReceive, u] at h
  · exact SendStep.refl _ d

theorem SendState.notice_step (e : SendEnv) (x : NoticeDetail) (d : SendState) :
    SendStep e.trainUp d (d.notice e x) :=
  ((d.noticeTo_step e .signalling x).trans (SendState.noticeTo_step e .train x _)).trans
    (SendState.noticeTo_step e .station x _)

theorem SendState.evacNotice_step (e : SendEnv) (x : NoticeDetail) (d : SendState) :
    SendStep e.trainUp d (d.evacNotice e x) := by
  unfold SendState.evacNotice
  refine ((d.noticeTo_step e .signalling x).trans ?_).trans
    (SendState.make_step e x _ fun _ => by simp)
  split
  · exact SendState.make_step e x _ fun u => by simp_all
  · exact SendStep.refl _ _

theorem SendState.foldl_step {α : Type} {up : Bool} {f : SendState → α → SendState}
    (hf : ∀ d x, SendStep up d (f d x)) (xs : List α) (d : SendState) :
    SendStep up d (xs.foldl f d) := by
  induction xs generalizing d with
  | nil => exact SendStep.refl _ d
  | cons x xs ih => exact (hf d x).trans (ih _)

end Sys2Proof.Machine
end

