-- ==== Sys2Proof/Laws/Stable.lean ====
section
/-!
SUPPORT. What each shared operation can touch, said once. `Touch` names parts of the state, `Stable W P`
says that a property `P` survives every change of the parts named in `W` and of those any door operation
touches, and each operation has one lemma: it keeps `P`, given the parts it touches are in `W`. A frame,
an invariant or a bound is then shown by giving `Stable W P` for it.
-/
namespace Sys2Proof.Machine
open Sys2Proof

/-- Parts of the state an operation may touch, beyond the frames sent, the phase, the berth record, the
operation record and the Alarm List. -/
structure Touch where
  /-- bays whose record changes -/
  bay : Nat → Prop
  /-- the rest of the berth state but the approach queue -/
  berth : Prop := False
  /-- the approach queue, its expected number, SYNC_LOST and the last bound number -/
  queue : Prop := False
  /-- the bay count and the pending-isolation list, apart from removals from it -/
  doors : Prop := False
  sense : Prop := False
  emer : Prop := False
  mode : Prop := False
  link : Prop := False
  bus : Prop := False
  secure : Prop := False
  store : Prop := False
  /-- the values of an entry to STARTUP -/
  startup : Prop := False

/-- The queue and what goes with it stand. -/
def BerthState.sameQueue (x y : BerthState) : Prop :=
  x.queue = y.queue ∧ x.expected = y.expected ∧ x.syncLost = y.syncLost ∧ x.lastBound = y.lastBound

/-- `P` survives every change of the parts in `W`. -/
structure Stable (W : Touch) (P : State → Prop) : Prop where
  send : ∀ {s : State} (x : SendState), SendStep s.link.trainUp s.send x → P s → P { s with send := x }
  bay : ∀ {s : State} (b : Nat) (f : Bay → Bay), W.bay b → P s → P (s.setBay b f)
  bays : ∀ {s : State} (x : List Bay), (∀ b, W.bay b) → x.length = s.bays.length → P s →
    P { s with bays := x }
  record : ∀ {s : State} (f : Berth → Berth), (∀ r, (f r).identity = r.identity) → P s →
    P (s.setRecord f)
  phase : ∀ {s : State} (p : Phase) (c : Option Millis), P s →
    P { s with berth := { s.berth with phase := p, clearFrom := c } }
  berth : ∀ {s : State} (x : BerthState), W.berth → x.sameQueue s.berth → P s → P { s with berth := x }
  queue : ∀ {s : State} (x : BerthState), W.queue → x.queue.Sublist s.berth.queue → P s →
    P { s with berth := x }
  operation : ∀ {s : State} (o : Option Operation), P s → P (s.setOperation o)
  removal : ∀ {s : State} (p : IsolationRequest → Bool), P s →
    P { s with doors := { s.doors with requests := s.doors.requests.filter p } }
  doors : ∀ {s : State} (x : DoorState), W.doors → P s → P { s with doors := x }
  alarm : ∀ {s : State} (k : AlarmKind) (b : Option Nat) (d : Option AlarmDetail), P s →
    P { s with alarms := (s.alarms.raise k b d s.seconds).1 }
  cleared : ∀ {s : State} (p : AlarmEntry → Bool), P s → P { s with alarms := s.alarms.clear p }
  sense : ∀ {s : State} (x : SenseState), W.sense → P s → P { s with sense := x }
  emer : ∀ {s : State} (x : EmergencyState), W.emer → P s → P { s with emer := x }
  mode : ∀ {s : State} (x : Mode), W.mode → P s → P { s with mode := x }
  link : ∀ {s : State} (x : LinkState), W.link → P s → P { s with link := x }
  bus : ∀ {s : State} (x : BusState), W.bus → P s → P { s with bus := x }
  secure : ∀ {s : State} (x : SecureState), W.secure → P s → P { s with secure := x }
  store : ∀ {s : State} (x : StoreState), W.store → P s → P { s with store := x }
  startup : ∀ {s : State} (k : StartupBy), W.startup → P s → P (s.startupValues k)

variable {W : Touch} {P : State → Prop} (h : Stable W P) {s : State}

namespace Stable
include h

/-! ### Ops -/

theorem notice (x : NoticeDetail) (hs : P s) : P (s.notice x) :=
  h.send _ (SendState.notice_step s.env x s.send) hs

theorem notices (xs : List NoticeDetail) (hs : P s) : P (s.notices xs) :=
  h.send _ (SendState.foldl_step (fun d x => SendState.notice_step s.env x d) _ _) hs

theorem stationNotice (x : NoticeDetail) (hs : P s) : P (s.stationNotice x) :=
  h.send _ (SendState.noticeTo_step s.env .station x s.send) hs

theorem dwellNotice (x : NoticeDetail) (hs : P s) : P (s.dwellNotice x) :=
  h.send _ ((SendState.noticeTo_step s.env .train x s.send).trans
    (SendState.noticeTo_step s.env .station x _)) hs

theorem evacuationNotice (hs : P s) : P s.evacuationNotice :=
  h.send _ (SendState.evacNotice_step s.env _ s.send) hs

theorem sendStatus (hs : P s) : P s.sendStatus :=
  h.send _ (SendState.unsolicited_step _ _ _ rfl fun _ => by simp) hs

theorem sendBerthReport (hs : P s) : P s.sendBerthReport := by
  refine h.send _ ?_ hs
  split
  · exact SendState.unsolicited_step _ _ _ rfl fun u => by simp_all
  · exact SendStep.refl _ _

theorem sendDoorReport (hs : P s) : P s.sendDoorReport := by
  refine h.send _ ?_ hs
  split
  · exact SendState.unsolicited_step _ _ _ rfl fun u => by simp_all
  · exact SendStep.refl _ _

theorem reportOperation (hs : P s) : P s.reportOperation := by
  unfold State.reportOperation
  split
  · exact hs
  · exact h.sendStatus (h.sendDoorReport (h.notice _ hs))

theorem raise (k : AlarmKind) (b : Option Nat) (d : Option AlarmDetail) (hs : P s) :
    P (s.raise k b d) := by
  have h1 := h.alarm k b d hs
  refine h.send (s := { s with alarms := (s.alarms.raise k b d s.seconds).1 }) _ ?_ h1
  split
  · exact SendState.notice_step s.env _ s.send
  · exact SendStep.refl _ _

theorem clearWhere (p : AlarmEntry → Bool) (hs : P s) : P (s.clearWhere p) :=
  h.send (s := { s with alarms := s.alarms.clear p }) _
    (SendState.foldl_step (fun d _ => SendState.notice_step s.env _ d) _ _) (h.cleared p hs)

theorem clear (k : AlarmKind) (b : Option Nat) (hs : P s) : P (s.clear k b) := h.clearWhere _ hs

theorem setPhase (p : Phase) (hs : P s) : P (s.setPhase p) := by
  unfold State.setPhase
  split
  · exact hs
  · exact h.notice _ (h.sendStatus (h.phase p _ hs))

theorem setMode (m : Mode) (hm : W.mode) (hs : P s) : P (s.setMode m) := by
  unfold State.setMode
  split
  · exact hs
  · exact h.sendStatus (h.mode m hm hs)

omit h in
theorem forBays {bs : List Nat} {f : Nat → State → State}
    (hf : ∀ b ∈ bs, ∀ t, P t → P (f b t)) (hs : P s) : P (s.forBays bs f) := by
  unfold State.forBays
  induction bs generalizing s with
  | nil => exact hs
  | cons b bs ih =>
    exact ih (fun c hc => hf c (List.mem_cons_of_mem _ hc)) (hf b List.mem_cons_self _ hs)

theorem startWatch (hw : W.sense) (hb : ∀ b, W.bay b) (hs : P s) : P s.startWatch :=
  h.bays (s := { s with sense := { s.sense with watchStart := some s.now } }) _ hb (by simp) (h.sense _ hw hs)

theorem mapBays (f : Bay → Bay) (hb : ∀ b, W.bay b) (hs : P s) : P (s.mapBays f) := h.bays _ hb (by simp) hs

theorem leaveVacant (hw : W.sense) (hs : P s) : P s.leaveVacant := by
  unfold State.leaveVacant
  split
  · exact h.raise _ _ _ (h.sense _ hw hs)
  · exact h.sense _ hw hs

theorem enterVacant (hw : W.sense) (hb : ∀ b, W.bay b) (hs : P s) : P s.enterVacant := by
  have h1 := h.setPhase .vacant hs
  unfold State.enterVacant
  dsimp only
  split
  · exact h1
  · exact h.startWatch hw hb h1

theorem gapNotice (b : Nat) (hs : P s) : P (s.gapNotice b) := h.notice _ hs

theorem startGap {b : Nat} (hb : W.bay b) (hs : P s) : P (s.startGap b) := h.bay b _ hb hs

theorem resetGap {b : Nat} (hb : W.bay b) (hs : P s) : P (s.resetGap b) := by
  have h1 := h.bay b (fun y => { y with gap := .notRequired, gapFrom := none }) hb hs
  unfold State.resetGap
  dsimp only
  split
  · exact h.gapNotice _ (h.clear _ _ h1)
  · exact h1

/-! ### DoorOps -/

theorem endStep {b : Nat} (x : StepResult) (hb : W.bay b) (hs : P s) : P (s.endStep b x) := by
  unfold State.endStep
  split
  · exact h.stationNotice _ (h.bay b _ hb hs)
  · exact hs

theorem dropRequest {b : Nat} (hb : W.bay b) (hs : P s) : P (s.dropRequest b) :=
  h.bay (s := { s with doors := { s.doors with requests := s.doors.requests.filter _ } }) b _ hb
    (h.removal _ hs)

theorem openComplete (hs : P s) : P s.openComplete :=
  h.record _ (fun r => by split <;> rfl) hs

theorem operationDone (o : Operation) (hs : P s) : P (s.operationDone o) := by
  have h1 := h.reportOperation
    (h.operation (some { o with status := .done, finish := some s.seconds }) hs)
  have h2 := h.setPhase .opened h1
  unfold State.operationDone
  dsimp only
  split <;> split <;> first
    | exact h1
    | exact h2
    | exact h.openComplete h1
    | exact h.openComplete h2

theorem giveOutcome (b : Nat) (st : BayState) (hs : P s) : P (s.giveOutcome b st) := by
  unfold State.giveOutcome
  split
  · exact hs
  · split
    · split
      · exact hs
      · dsimp only
        split
        · exact h.operationDone _ hs
        · exact h.operation _ hs
    · exact hs

theorem abortOperation (w : AbortReason) (hs : P s) : P (s.abortOperation w) := by
  unfold State.abortOperation
  split
  · exact hs
  · exact h.reportOperation (h.operation _ hs)

theorem reclassify (b : Nat) (hs : P s) : P (s.reclassify b) := by
  unfold State.reclassify
  split
  · split
    · exact hs
    · exact hs
    · dsimp only
      split
      · exact h.sendBerthReport (h.clear _ _ (h.record _ (fun _ => rfl) hs))
      · exact h.sendBerthReport (h.record _ (fun _ => rfl) hs)
  · exact hs

theorem leaveState {b : Nat} (old : Option BayState) (st : BayState) (hb : W.bay b) (hs : P s) :
    P (s.leaveState b old st) := by
  unfold State.leaveState
  dsimp only
  have a1 : ∀ t, P t → ∀ c : Bool, P (if c then State.resetGap b t else t) := fun t ht c => by
    cases c
    · exact ht
    · exact h.resetGap hb ht
  have a2 : ∀ t, P t → ∀ c : Bool, P (if c then t.clear .obstructionHeld (some b) else t) :=
    fun t ht c => by
      cases c
      · exact ht
      · exact h.clear _ _ ht
  have a3 : ∀ t, P t → ∀ c : Bool, P (if c then ((t.clear .openTimeout (some b)).clear .closeTimeout
      (some b)).clear .provingDiscrepant (some b) else t) := fun t ht c => by
    cases c
    · exact ht
    · exact h.clear _ _ (h.clear _ _ (h.clear _ _ ht))
  have a4 : ∀ t, P t → ∀ c : Bool, P (if c then (State.endStep b .failed t).setBay b fun y =>
      { y with step := none } else t) := fun t ht c => by
    cases c
    · exact ht
    · exact h.bay b _ hb (h.endStep _ hb ht)
  have h4 := a4 _ (a3 _ (a2 _ (a1 _ hs (old.any (· == .locked) && st != .locked))
    (old.any BayState.isHeld && !st.isHeld)) (old.any BayState.isFault && !st.isFault)) (st != .test)
  split
  · split
    · exact h.dropRequest hb h4
    · exact h.raise _ _ _ (h.dropRequest hb h4)
  · exact h4

theorem noteOpened {b : Nat} (hb : W.bay b) (hs : P s) : P (s.noteOpened b) := by
  have h1 := h.record (fun r => { r with opened := insertAscending b r.opened }) (fun _ => rfl) hs
  unfold State.noteOpened
  dsimp only
  split
  · split
    · exact h.bay b _ hb h1
    · exact h1
  · exact h1

theorem handOn (b : Nat) (st : BayState) (hs : P s) : P (s.handOn b st) := by
  have h1 := h.giveOutcome b st hs
  unfold State.handOn
  dsimp only
  split
  · exact h.reclassify b h1
  · exact h1

theorem enterState {b : Nat} (st : BayState) (hb : W.bay b) (hs : P s) : P (s.enterState b st) := by
  have h1 := h.bay b (Bay.enter st s.now) hb (h.leaveState (s.bay b).state st hb hs)
  unfold State.enterState
  dsimp only
  refine h.handOn b st ?_
  split
  · exact h.noteOpened hb h1
  · exact h1

theorem faultBay {b : Nat} (w : FaultReason) (k : AlarmKind) (d : Option AlarmDetail) (hb : W.bay b)
    (hs : P s) : P (s.faultBay b w k d) := h.raise _ _ _ (h.enterState _ hb hs)

theorem startClosing {b : Nat} (c : CloseBy) (hb : W.bay b) (hs : P s) : P (s.startClosing b c) := by
  unfold State.startClosing
  split
  · split
    · exact hs
    · split
      · exact h.enterState _ hb (h.enterState _ hb hs)
      · exact h.enterState _ hb hs
  · exact h.enterState _ hb hs

theorem takeForClose {b : Nat} (c : CloseBy) (hb : W.bay b) (hs : P s) : P (s.takeForClose c b) := by
  have h1 := h.bay b (fun y => { y with closeBy := some c }) hb hs
  unfold State.takeForClose
  dsimp only
  split
  · split
    · exact h.enterState _ hb h1
    · exact h1
  · exact h.startClosing _ hb h1

theorem startClose (k : OpKind) (o : Origin) {bs : List Nat} (hb : ∀ b ∈ bs, W.bay b) (hs : P s) :
    P (s.startClose k o bs) := by
  unfold State.startClose
  split
  · exact hs
  · exact h.reportOperation (Stable.forBays (fun b m t ht => h.takeForClose _ (hb b m) ht)
      (h.record _ (fun _ => rfl) (h.operation _ (h.abortOperation _ hs))))

theorem phaseForClose (hs : P s) : P s.phaseForClose := by
  unfold State.phaseForClose
  split
  · exact h.setPhase _ hs
  · exact hs

theorem takeForOpen (k : OpKind) {b : Nat} (hb : W.bay b) (hs : P s) : P (s.takeForOpen k b) := by
  have h1 := h.bay b (fun y => { y with retry := 0 }) hb hs
  unfold State.takeForOpen
  dsimp only
  split <;> split <;> first
    | exact h1
    | exact hs
    | exact h.enterState _ hb h1
    | exact h.enterState _ hb hs

theorem startOpen (k : OpKind) (o : Origin) {bs : List Nat} (hb : ∀ b ∈ bs, W.bay b) (hs : P s) :
    P (s.startOpen k o bs) := by
  have h2 := h.operation (some ⟨k, o, bs, .busy, none, [], s.seconds, none⟩)
    (h.abortOperation .superseded hs)
  unfold State.startOpen
  dsimp only
  refine h.setPhase _ (h.reportOperation (Stable.forBays (fun b m t ht => h.takeForOpen k (hb b m) ht) ?_))
  split
  · exact h.record _ (fun _ => rfl) h2
  · exact h2

theorem evacOpen (hb : ∀ b, W.bay b) (hs : P s) : P s.evacOpen := by
  unfold State.evacOpen
  split
  · exact hs
  · exact h.startOpen _ _ (fun b _ => hb b) hs

theorem lockClosing {b : Nat} (hb : W.bay b) (hs : P s) : P (s.lockClosing b) := by
  unfold State.lockClosing
  dsimp only
  split
  · exact h.startGap hb (h.enterState _ hb hs)
  · exact h.enterState _ hb hs

theorem obstructClosing {b : Nat} (hb : W.bay b) (hs : P s) : P (s.obstructClosing b) :=
  h.enterState _ hb (h.bay b _ hb hs)

/-! ### BerthOps -/

theorem align (slot : Nat) (o : Orientation) (hw : W.berth) (hb : ∀ b, W.bay b) (hs : P s) :
    P (s.align slot o) := by
  unfold State.align
  dsimp only
  have a : ∀ (xs : List (AlarmKind × Option Nat × AlarmDetail)) (t : State), P t →
      P (xs.foldl (fun (t : State) x => t.raise x.1 x.2.1 (some x.2.2)) t) := by
    intro xs
    induction xs with
    | nil => exact fun t ht => ht
    | cons x xs ih => exact fun t ht => ih _ (h.raise _ _ _ ht)
  generalize alignment _ _ _ _ _ _ = r
  generalize alignmentAlarms _ _ _ _ _ = xs
  have h4 := h.sendBerthReport (h.setPhase r.outcome.phase (a xs _ (h.berth
    { ((s.clearWhere fun e => e.kind.ofAlignment).setRecord fun x => { x with align := r }).berth with
      pendingStop := false } hw ⟨rfl, rfl, rfl, rfl⟩ (h.record _ (fun _ => rfl) (h.clearWhere _ hs)))))
  split
  · exact h.evacOpen hb h4
  · exact h4

theorem takeStop (hw : W.berth) (hb : ∀ b, W.bay b) (hs : P s) : P s.takeStop := by
  unfold State.takeStop
  split
  · split
    · exact h.align _ _ hw hb hs
    · exact h.berth { s.berth with pendingStop := true } hw ⟨rfl, rfl, rfl, rfl⟩ hs
  · exact hs

theorem settlePending (hw : W.berth) (hb : ∀ b, W.bay b) (hs : P s) : P s.settlePending := by
  unfold State.settlePending
  split
  · split
    · exact h.align _ _ hw hb hs
    · exact hs
  · exact hs

theorem clearAlignment (hs : P s) : P s.clearAlignment := h.clearWhere _ (h.record _ (fun _ => rfl) hs)

theorem backToArriving (hs : P s) : P s.backToArriving := by
  have h1 := h.sendBerthReport (h.setPhase .arriving (h.clearAlignment hs))
  unfold State.backToArriving
  dsimp only
  split
  · exact h1
  · exact h.setPhase _ h1

theorem unexpectedMovement (hb : ∀ b, W.bay b) (hs : P s) : P s.unexpectedMovement :=
  h.backToArriving (h.startClose _ _ (fun b _ => hb b)
    (h.record _ (fun _ => rfl) (h.abortOperation _ (h.raise _ _ _ hs))))

theorem movement (hb : ∀ b, W.bay b) (hs : P s) : P s.movement := by
  unfold State.movement
  split <;> first
    | exact hs
    | exact h.backToArriving hs
    | exact h.unexpectedMovement hb hs
    | exact h.setPhase _ hs

theorem noteMovement (hw : W.berth) (hs : P s) : P s.noteMovement :=
  h.berth _ hw (by exact ⟨rfl, rfl, rfl, rfl⟩) hs

theorem retire (hw : W.berth) (hb : ∀ b, W.bay b) (hs : P s) : P s.retire := by
  unfold State.retire
  dsimp only
  exact h.berth _ hw (by exact ⟨rfl, rfl, rfl, rfl⟩)
    (Stable.forBays (fun b _ t ht => h.resetGap (hb b) ht) (h.clearWhere _ hs))

theorem arrive (hw : W.queue) (hv : W.sense) (hs : P s) : P s.arrive := by
  have h1 := h.leaveVacant hv hs
  unfold State.arrive
  dsimp only
  split
  · split
    · rename_i e
      exact h.setPhase _ (h.sendStatus (h.queue _ hw (by rw [e]; exact List.sublist_cons_self _ _) h1))
    · exact h.raise _ _ _ (h.setPhase _ (h.queue _ hw (List.Sublist.refl _) h1))
  · exact h.raise _ _ _ (h.setPhase _ h1)

/-! ### Flags -/

theorem settleMovement (hs : P s) : P s.settleMovement := by
  unfold State.settleMovement
  split
  · exact h.clear _ _ hs
  · exact hs

theorem settleSecure (hw : W.secure) (hs : P s) : P s.settleSecure := by
  have h1 := h.secure (s.secure.form s.judge s.lines s.now) hw hs
  unfold State.settleSecure
  dsimp only
  split
  · exact h1
  · exact h.notice _ (h.sendStatus h1)

theorem finish (hw : W.secure) (hs : P s) : P s.finish :=
  h.settleSecure hw (h.setPhase _ (h.settleMovement hs))

end Stable

end Sys2Proof.Machine
end

