-- ==== Sys2Proof/Laws/StableEvents.lean ====
section
/-!
SUPPORT. What the shared operations of the Emergency Monitor, the Door Bus Master, the Sensing Unit and
the Configuration Store can touch, and what each event of the part can: one lemma each, in the form of
Laws/Stable.lean.
-/
namespace Sys2Proof.Machine
open Sys2Proof

variable {W : Touch} {P : State → Prop} (h : Stable W P) {s : State}

namespace Stable
include h

/-! ### EmergencyOps -/

theorem enterEmergency (he : W.emer) (hm : W.mode) (hs : P s) : P s.enterEmergency := by
  unfold State.enterEmergency
  split <;> first
    | exact hs
    | exact h.abortOperation _ (h.notice _ (h.setMode _ hm (h.emer _ he hs)))

theorem flagStatus (c : Bool) (hs : P s) : P (s.flagStatus c) := by
  unfold State.flagStatus
  split
  · exact h.sendStatus hs
  · exact hs

theorem joinRelease {b : Nat} (c : ReleaseContact) (hb : W.bay b) (he : W.emer) (hs : P s) :
    P (s.joinRelease b c) :=
  h.leaveState _ _ hb (h.handOn _ _ (h.notice _ (h.flagStatus _ (h.raise _ _ _
    (h.emer _ he (h.bay b _ hb hs))))))

theorem releaseBay {b : Nat} (c : ReleaseContact) (hb : W.bay b) (he : W.emer) (hm : W.mode)
    (hs : P s) : P (s.releaseBay b c) := by
  unfold State.releaseBay
  dsimp only
  split
  · exact h.enterEmergency he hm (h.setPhase _ (h.joinRelease c hb he hs))
  · exact h.joinRelease c hb he hs

theorem restore {b : Nat} (hb : W.bay b) (he : W.emer) (hs : P s) : P (s.restore b) :=
  h.notice _ (h.flagStatus _ (h.clear _ _ (h.emer _ he (h.enterState _ hb hs))))

theorem joinEvacuation (he : W.emer) (hs : P s) : P s.joinEvacuation :=
  h.flagStatus _ (h.raise _ _ _ (h.emer _ he hs))

theorem evacuate (hb : ∀ b, W.bay b) (he : W.emer) (hm : W.mode) (hs : P s) : P s.evacuate := by
  have h1 := h.evacuationNotice (h.joinEvacuation he hs)
  unfold State.evacuate
  dsimp only
  split <;> split <;> first
    | exact h1
    | exact h.evacOpen hb h1
    | exact h.enterEmergency he hm h1
    | exact h.evacOpen hb (h.enterEmergency he hm h1)

theorem endEvacuation (he : W.emer) (hs : P s) : P s.endEvacuation :=
  h.notice _ (h.flagStatus _ (h.clear _ _ (h.emer _ he hs)))

theorem rederive (c : Bool) (hb : ∀ b, W.bay b) (hs : P s) : P (s.rederive c) := by
  unfold State.rederive
  dsimp only
  split
  · exact h.setPhase _ (Stable.forBays (fun b _ t ht => h.startGap (hb b) ht) hs)
  · exact hs

theorem rearm (hb : ∀ b, W.bay b) (he : W.emer) (hm : W.mode) (hs : P s) : P s.rearm :=
  h.notice _ (h.emer _ he (h.mapBays _ hb (h.rederive _ hb (h.startClose _ _ (fun b _ => hb b)
    (h.setMode _ hm hs)))))

/-! ### BusOps -/

theorem pollBay (hw : W.bus) (hs : P s) : P s.pollBay := h.bus _ hw hs

theorem keepReply (r : NodeReply) (hw : W.bus) (hb : W.bay r.bay) (hs : P s) : P (s.keepReply r) := by
  have h1 := h.bay r.bay (Bay.keepReply r s.inStartup s.now) hb
    (h.bus { s.bus with awaiting := none } hw hs)
  unfold State.keepReply
  dsimp only
  split
  · exact h.clear _ _ h1
  · exact h1

theorem applyRelease (r : NodeReply) (hb : W.bay r.bay) (he : W.emer) (hm : W.mode) (hs : P s) :
    P (s.applyRelease r) := by
  unfold State.applyRelease
  split
  · exact h.releaseBay _ hb he hm hs
  · exact hs

theorem endDiscrepancy (r : NodeReply) (hs : P s) : P (s.endDiscrepancy r) := by
  unfold State.endDiscrepancy
  split
  · exact hs
  · exact h.clear _ _ hs

theorem applyProving (r : NodeReply) (ret : Bool) (hb : W.bay r.bay) (hs : P s) :
    P (s.applyProving r ret) := by
  unfold State.applyProving
  split
  · split
    · exact hs
    · exact h.faultBay _ _ _ hb hs
  · split
    · exact h.lockClosing hb hs
    · exact hs
  · split
    · exact h.enterState _ hb hs
    · exact hs
  · split
    · split
      · exact h.endStep _ hb hs
      · exact hs
    · exact hs
  all_goals exact hs

theorem takeEvent {b : Nat} (e : MotionEvent) (hb : W.bay b) (hs : P s) : P (s.takeEvent b e) := by
  unfold State.takeEvent
  split
  · exact h.enterState _ hb hs
  · exact h.enterState _ hb (h.bay b _ hb hs)
  · exact h.enterState _ hb (h.bay b _ hb hs)
  · exact h.enterState _ hb hs
  · exact h.obstructClosing hb hs
  · split
    · exact h.endStep _ hb hs
    · exact hs
  · split
    · exact h.endStep _ hb hs
    · exact hs
  · split
    · exact h.endStep _ hb hs
    · exact hs
  · exact hs

theorem applyMotion (r : NodeReply) (hb : W.bay r.bay) (hs : P s) : P (s.applyMotion r) := by
  unfold State.applyMotion
  split
  · exact h.takeEvent _ hb (h.bay r.bay _ hb hs)
  · exact hs

theorem isolate {b : Nat} (m : Isolation) (hb : W.bay b) (hs : P s) : P (s.isolate b m) :=
  h.notice _ (h.bay b _ hb (h.enterState _ hb (h.dropRequest hb hs)))

theorem applyIso (r : NodeReply) (hb : W.bay r.bay) (hs : P s) : P (s.applyIso r) := by
  unfold State.applyIso
  split
  · exact h.isolate _ hb hs
  · exact hs

theorem applySensors (r : NodeReply) (hb : W.bay r.bay) (hs : P s) : P (s.applySensors r) := by
  have h1 := h.bay r.bay (Bay.takePresence r.presence s.now) hb hs
  unfold State.applySensors
  dsimp only
  have a : ∀ t, P t → ∀ c : Bool, P (if c then t.clear .presenceStuck (some r.bay) else t) :=
    fun t ht c => by
      cases c
      · exact ht
      · exact h.clear _ _ ht
  have b : ∀ t, P t → P (if t.bayIs r.bay (· == .isolated) then t
      else t.setBay r.bay (Bay.takeZone (t.zoneTaken r.bay r.gap) t.now)) := fun t ht => by
    split
    · exact ht
    · exact h.bay r.bay _ hb ht
  have c : ∀ t, P t → P (if !r.presence && t.bayIs r.bay (· == .closeWait) then
      t.enterState r.bay (.closing .normal) else t) := fun t ht => by
    split
    · exact h.enterState _ hb ht
    · exact ht
  exact c _ (b _ (a _ h1 ((s.bay r.bay).stuck && !r.presence)))

theorem takeReply (r : NodeReply) (hw : W.bus) (hb : W.bay r.bay) (he : W.emer) (hm : W.mode)
    (hs : P s) : P (s.takeReply r) :=
  h.applySensors r hb (h.applyIso r hb (h.applyMotion r hb (h.applyProving r _ hb
    (h.endDiscrepancy r (h.applyRelease r hb he hm (h.keepReply r hw hb hs))))))

theorem loseNode {b : Nat} (hb : W.bay b) (hs : P s) : P (s.loseNode b) := by
  unfold State.loseNode
  dsimp only
  split
  · exact h.enterState _ hb (h.raise _ _ _ (h.bay b _ hb hs))
  · exact h.raise _ _ _ (h.bay b _ hb hs)

theorem missReply {b : Nat} (hw : W.bus) (hb : W.bay b) (hs : P s) : P (s.missReply b) := by
  have h1 := h.bay b (fun y => { y with missed := min missedLimit ((s.bay b).missed + 1) }) hb
    (h.bus { s.bus with awaiting := none } hw hs)
  unfold State.missReply
  dsimp only
  split
  · exact h.loseNode hb h1
  · exact h1

/-! ### StoreOps -/

theorem enterStartup (k : StartupBy) (hw : W.startup) (hs : P s) : P (s.enterStartup k) := by
  have h1 := h.sendStatus (h.startup k hw hs)
  unfold State.enterStartup
  dsimp only
  split <;> split <;> first
    | exact h.raise _ _ _ (h.clearWhere _ (h.notices _ h1))
    | exact h.clearWhere _ (h.notices _ h1)
    | exact h.raise _ _ _ (h.clearWhere _ h1)
    | exact h.clearWhere _ h1

theorem takeContent (c : Option Content) (n : Nat) (hw : W.store) (hd : W.doors) (hb : ∀ b, W.bay b)
    (hs : P s) : P (s.takeContent c n) := by
  unfold State.takeContent
  dsimp only
  have h1 := h.store { s.store with inForce := c } hw hs
  have h2 := h.doors { s.doors with count := n } hd h1
  have h3 := h.bays (s.bays.take n ++ (s.bays.drop n).map fun _ => Bay.blank s.now) hb
    (by simp; omega) h2
  exact Stable.forBays (fun b _ t ht => h.bay b _ (hb b) ht) h3

theorem reconcile {b : Nat} (hb : W.bay b) (hs : P s) : P (s.reconcile b) := by
  unfold State.reconcile
  dsimp only
  split
  · exact hs
  · split <;> first
      | exact hs
      | exact h.enterState _ hb hs

theorem reconcileFailed {b : Nat} (hb : W.bay b) (hs : P s) : P (s.reconcileFailed b) := by
  unfold State.reconcileFailed
  dsimp only
  split
  · exact hs
  · split <;> first
      | exact hs
      | exact h.enterState _ hb hs
      | exact h.faultBay _ _ _ hb hs

theorem setIsolations (c : Bool) (l : Nat) (hb : ∀ b, W.bay b) :
    ∀ (n : Nat) (bs : List Nat) (s : State), P s → P (Machine.setIsolations c l n bs s)
  | _, [], _, hs => hs
  | n, b :: bs, s, hs => by
    unfold Machine.setIsolations
    dsimp only
    split
    · split
      · exact setIsolations c l hb _ bs _ (h.bay b _ (hb b) (h.enterState _ (hb b) hs))
      · exact setIsolations c l hb _ bs _ (h.raise _ _ _ (h.bay b _ (hb b) (h.enterState _ (hb b) hs)))
    · exact setIsolations c l hb _ bs _ hs

theorem loadIsolations (c : Bool) (hb : ∀ b, W.bay b) (hs : P s) : P (s.loadIsolations c) :=
  h.setIsolations c _ hb _ _ _ hs

theorem rebuildCauses (hb : ∀ b, W.bay b) (he : W.emer) (hs : P s) : P s.rebuildCauses := by
  unfold State.rebuildCauses
  dsimp only
  refine Stable.forBays (fun b _ t ht => ?_) ?_
  · split
    · split
      · exact h.joinRelease _ (hb b) he ht
      · exact ht
    · exact ht
  · split
    · exact h.joinEvacuation he hs
    · exact hs

theorem phaseAtLoad (hw : W.berth) (hv : W.sense) (hb : ∀ b, W.bay b) (hs : P s) : P s.phaseAtLoad := by
  have h1 := h.berth { s.berth with
    stableFrom := if s.beamsClear then none else some s.now, stopTaken := false } hw
    ⟨rfl, rfl, rfl, rfl⟩ hs
  have c : ∀ t, P t → P (if t.beamsClear then t.enterVacant else t.setPhase .occupiedUnknown) :=
    fun t ht => by
      split
      · exact h.enterVacant hv hb ht
      · exact h.setPhase _ ht
  exact c _ h1

theorem evacuationAtLoad (hs : P s) : P s.evacuationAtLoad := by
  unfold State.evacuationAtLoad
  split
  · exact h.evacuationNotice hs
  · exact hs

theorem modeAtLoad (hm : W.mode) (hs : P s) : P s.modeAtLoad := by
  unfold State.modeAtLoad
  split
  · exact h.setMode _ hm hs
  · exact h.notice _ (h.evacuationAtLoad (h.setMode _ hm hs))

theorem endLoad (hq : W.queue) (hw : W.berth) (hv : W.sense) (hb : ∀ b, W.bay b) (he : W.emer)
    (hm : W.mode) (ht : W.store) (hd : W.doors) (hs : P s) : P s.endLoad := by
  unfold State.endLoad
  exact h.startClose _ _ (fun b _ => hb b) (h.modeAtLoad hm (h.phaseAtLoad hw hv hb (h.rebuildCauses hb he
    (h.loadIsolations _ hb (Stable.forBays (fun b _ t ht => h.reconcile (hb b) ht) (h.clear _ _
      (h.takeContent _ _ ht hd hb (h.queue _ hq (List.nil_sublist _) hs))))))))

theorem endFailedLoad (d : StoreDetail) (hq : W.queue) (hw : W.berth) (hv : W.sense)
    (hb : ∀ b, W.bay b) (he : W.emer) (hm : W.mode) (ht : W.store) (hd : W.doors) (hs : P s) :
    P (s.endFailedLoad d) := by
  unfold State.endFailedLoad
  exact h.raise _ _ _ (h.evacuationAtLoad (h.setMode _ hm (h.phaseAtLoad hw hv hb (h.rebuildCauses hb he
    (h.loadIsolations _ hb (Stable.forBays (fun b _ t ht => h.reconcileFailed (hb b) ht)
      (h.takeContent _ _ ht hd hb (h.queue _ hq (List.nil_sublist _) hs))))))))

theorem endCommit (ht : W.store) (hs : P s) : P s.endCommit := h.notice _ (h.store _ ht hs)

/-! ### Supply and store events -/

theorem loadSucceeded (hq : W.queue) (hw : W.berth) (hv : W.sense) (hb : ∀ b, W.bay b) (he : W.emer)
    (hm : W.mode) (ht : W.store) (hd : W.doors) (hs : P s) : P s.loadSucceeded := by
  unfold State.loadSucceeded
  split
  · exact h.endLoad hq hw hv hb he hm ht hd hs
  · exact hs

theorem loadFailed (hq : W.queue) (hw : W.berth) (hv : W.sense) (hb : ∀ b, W.bay b) (he : W.emer)
    (hm : W.mode) (ht : W.store) (hd : W.doors) (hs : P s) : P s.loadFailed := by
  unfold State.loadFailed
  split
  · split
    · exact h.endFailedLoad _ hq hw hv hb he hm ht hd hs
    · exact hs
  · exact hs

theorem commitWriteEnd (ht : W.store) (hu : W.startup) (hs : P s) : P s.commitWriteEnd := by
  unfold State.commitWriteEnd
  split
  · split
    · exact h.enterStartup _ hu (h.endCommit ht hs)
    · exact h.endCommit ht hs
  · exact hs

/-! ### Door Bus events -/

theorem poll (hw : W.bus) (hs : P s) : P s.poll := by
  unfold State.poll
  split
  · exact h.pollBay hw hs
  · exact hs

theorem nodeReply (r : NodeReply) (hw : W.bus) (hb : W.bay r.bay) (he : W.emer) (hm : W.mode)
    (hs : P s) : P (s.nodeReply r) := by
  unfold State.nodeReply
  split
  · exact h.takeReply r hw hb he hm hs
  · exact hs

theorem nodeReplyMissed (hw : W.bus) (hb : ∀ b, W.bay b) (hs : P s) : P s.nodeReplyMissed := by
  unfold State.nodeReplyMissed
  split
  · exact h.missReply hw (hb _) hs
  · exact hs

/-! ### Input events -/

theorem beamStop (hw : W.berth) (hb : ∀ b, W.bay b) (hs : P s) : P s.beamStop := by
  unfold State.beamStop
  split
  · exact h.takeStop hw hb (h.berth { s.berth with stopTaken := true } hw ⟨rfl, rfl, rfl, rfl⟩ hs)
  · exact hs

theorem clearComplete (p : Phase) (hw : W.berth) (hv : W.sense) (hb : ∀ b, W.bay b) (hs : P s) :
    P (s.clearComplete p) := by
  unfold State.clearComplete
  split
  · exact h.enterVacant hv hb (h.retire hw hb hs)
  · exact hs

theorem dwellExpiry (hs : P s) : P s.dwellExpiry := by
  unfold State.dwellExpiry
  split
  · exact h.dwellNotice _ (h.record _ (fun _ => rfl) hs)
  · exact hs

theorem settleIncoherent (hs : P s) : P s.settleIncoherent := by
  unfold State.settleIncoherent
  split
  · exact h.clear _ _ hs
  · exact hs

theorem beamPhase (i : Nat) (v c : Bool) (hq : W.queue) (hw : W.berth) (hv : W.sense)
    (hb : ∀ b, W.bay b) (hs : P s) : P (s.beamPhase i v c) := by
  unfold State.beamPhase
  split
  · split
    · exact h.arrive hq hv hs
    · exact hs
  · split
    · exact h.setPhase _ hs
    · exact hs
  · split
    · exact h.arrive hq hv (h.enterVacant hv hb (h.retire hw hb hs))
    · exact hs
  · exact hs
  all_goals exact h.movement hb hs

theorem patternChanged (i : Nat) (v : Bool) (hq : W.queue) (hw : W.berth) (hv : W.sense)
    (hb : ∀ b, W.bay b) (hs : P s) : P (s.patternChanged i v) := by
  unfold State.patternChanged
  split
  · exact hs
  · exact h.beamPhase i v _ hq hw hv hb (h.berth _ hw (by exact ⟨rfl, rfl, rfl, rfl⟩)
      (h.settleIncoherent (h.noteMovement hw hs)))

theorem latchFault (c : Channel) (hw : W.secure) (hs : P s) : P (s.latchFault c) :=
  h.raise _ _ _ (h.secure _ hw hs)

theorem outputFault (c : Channel) (hw : W.secure) (hs : P s) : P (s.outputFault c) := by
  unfold State.outputFault
  dsimp only
  split
  · split
    · exact h.latchFault _ hw (h.latchFault _ hw hs)
    · exact h.latchFault _ hw hs
  · exact hs

/-! ### Expiries -/

theorem openTimeout {b : Nat} (hb : W.bay b) (hs : P s) : P (s.openTimeout b) := by
  unfold State.openTimeout
  split
  · exact h.faultBay _ _ _ hb hs
  · exact hs

theorem closeTimeout {b : Nat} (hb : W.bay b) (hs : P s) : P (s.closeTimeout b) := by
  unfold State.closeTimeout
  split
  · exact h.faultBay _ _ _ hb hs
  · exact hs

theorem doorwayHoldExpiry {b : Nat} (hb : W.bay b) (hs : P s) : P (s.doorwayHoldExpiry b) := by
  unfold State.doorwayHoldExpiry
  split
  · exact h.enterState _ hb hs
  · exact hs

theorem reclose {b : Nat} (hb : W.bay b) (hs : P s) : P (s.reclose b) := by
  unfold State.reclose
  split
  · exact h.startClosing _ hb (h.bay b _ hb hs)
  · exact h.raise _ _ _ (h.enterState _ hb hs)

theorem reopenHoldExpiry {b : Nat} (hb : W.bay b) (hs : P s) : P (s.reopenHoldExpiry b) := by
  unfold State.reopenHoldExpiry
  split
  · exact h.reclose hb hs
  · exact hs

theorem discrepancyTimerExpiry {b : Nat} (hb : W.bay b) (hs : P s) :
    P (s.discrepancyTimerExpiry b) := by
  unfold State.discrepancyTimerExpiry
  split
  · unfold State.discrepancy
    dsimp only
    split
    · exact h.enterState _ hb (h.raise _ _ _ (h.bay b _ hb hs))
    · exact h.raise _ _ _ (h.bay b _ hb hs)
  · exact hs

theorem recoveryTimerExpiry {b : Nat} (hb : W.bay b) (hs : P s) : P (s.recoveryTimerExpiry b) := by
  unfold State.recoveryTimerExpiry
  split
  · exact h.enterState _ hb hs
  · exact hs

theorem stepTimeLimitExpiry {b : Nat} (hb : W.bay b) (hs : P s) : P (s.stepTimeLimitExpiry b) := by
  unfold State.stepTimeLimitExpiry
  split
  · exact h.endStep _ hb hs
  · exact hs

theorem presenceStuck {b : Nat} (hb : W.bay b) (hs : P s) : P (s.presenceStuck b) := by
  have h1 := h.raise .presenceStuck (some b) none (h.bay b (fun x => { x with stuck := true }) hb hs)
  unfold State.presenceStuck
  dsimp only
  split
  · split
    · exact h.enterState _ hb h1
    · exact h1
  · exact hs

theorem gapCheckPassed {b : Nat} (hb : W.bay b) (hs : P s) : P (s.gapCheckPassed b) := by
  have h1 := h.bay b (fun x => { x with gap := .passed }) hb hs
  unfold State.gapCheckPassed
  dsimp only
  split
  · split
    · exact h.gapNotice _ (h.clear _ _ h1)
    · exact h1
  · exact hs

theorem gapCheckFailed {b : Nat} (hb : W.bay b) (hs : P s) : P (s.gapCheckFailed b) := by
  unfold State.gapCheckFailed
  split
  · exact h.gapNotice _ (h.raise _ _ _ (h.bay b _ hb hs))
  · exact hs

theorem trackIntrusion {b : Nat} (hb : W.bay b) (hv : W.sense) (hs : P s) : P (s.trackIntrusion b) := by
  unfold State.trackIntrusion
  split
  · exact h.raise _ _ _ (h.sense _ hv (h.bay b _ hb hs))
  · exact hs

theorem intrusionClear (hv : W.sense) (hb : ∀ b, W.bay b) (hs : P s) : P s.intrusionClear := by
  unfold State.intrusionClear
  split
  · exact h.startWatch hv hb (h.clear _ _ (h.sense _ hv hs))
  · exact hs

theorem signallingLost (he : W.emer) (hm : W.mode) (hs : P s) : P s.signallingLost := by
  unfold State.signallingLost
  split <;> first
    | exact hs
    | exact h.setMode _ hm hs
    | exact h.emer _ he hs

theorem sigWatchdogExpiry (hl : W.link) (he : W.emer) (hm : W.mode) (hs : P s) :
    P s.sigWatchdogExpiry := by
  unfold State.sigWatchdogExpiry
  split
  · exact h.signallingLost he hm (h.raise _ _ _ (h.link _ hl hs))
  · exact hs

theorem trainLost (hb : ∀ b, W.bay b) (hs : P s) : P s.trainLost := by
  have h1 := h.raise .trainLinkLost none none hs
  unfold State.trainLost State.linklossClose
  dsimp only
  split
  · split
    · exact h1
    · split
      · exact h1
      · exact h.phaseForClose (h.startClose _ _ (fun b _ => hb b) h1)
  · exact hs

theorem isolationExpired {b : Nat} (hb : W.bay b) (hs : P s) : P (s.isolationExpired b) := by
  unfold State.isolationExpired
  split
  · exact h.raise _ _ _ (h.dropRequest hb hs)
  · exact hs

/-! ### A valid Train Link frame -/

theorem goodFrame (p : Port) (hl : W.link) (hs : P s) : P (s.goodFrame p) := by
  have a : ∀ t, P t → P t.trainUp := fun t ht => by
    have h1 := h.clear .trainLinkLost none ht
    unfold State.trainUp
    dsimp only
    split <;> split <;> first
      | exact h1
      | exact h.sendBerthReport h1
      | exact h.sendDoorReport h1
      | exact h.sendDoorReport (h.sendBerthReport h1)
  unfold State.goodFrame State.trainFrame
  dsimp only
  split
  · split
    · exact h.link _ hl hs
    · exact a _ (h.link _ hl hs)
  · exact hs

end Stable

end Sys2Proof.Machine
end

