-- ==== Sys2Proof/Laws/StableRequests.lean ====
section
/-!
SUPPORT. What the owner of each request can touch (R154), in the form of Laws/Stable.lean, and what taking
a request or an event adds to that.
-/
namespace Sys2Proof.Machine
open Sys2Proof

variable {W : Touch} {P : State → Prop} (h : Stable W P) {s : State}

namespace Stable
include h

/-- Any change of the berth record. -/
theorem rewrite (f : Berth → Berth) (hw : W.berth) (hs : P s) : P (s.setRecord f) :=
  h.berth _ hw (by exact ⟨rfl, rfl, rfl, rfl⟩) hs

/-! ### The signalling master -/

theorem heartbeat (hl : W.link) (hm : W.mode) (hs : P s) : P s.heartbeat := by
  have h1 := h.clear .sigLinkLost none (h.link { s.link with
    watchdog := some (s.now + s.param .sigWatchdog) } hl hs)
  have c : ∀ t, P t → P (if t.mode = .localMode then t.setMode .normal else t) := fun t ht => by
    split
    · exact h.setMode _ hm ht
    · exact ht
  exact c _ h1

theorem withdrawApproach (n : Nat) (hq : W.queue) (hs : P s) : P (s.withdrawApproach n).state := by
  unfold State.withdrawApproach State.answer
  split
  · exact hs
  · split
    · exact h.sendStatus (h.queue _ hq List.filter_sublist hs)
    · exact hs

theorem resyncQueue (e : Option Nat) (c : Coded Choice) (hq : W.queue) (hs : P s) :
    P (s.resyncQueue e c).state := by
  unfold State.resyncQueue State.answer
  split
  · exact hs
  · split
    · exact hs
    · rename_i x
      have h1 := h.queue { s.berth with
        queue := if decide (x = .yes) then [] else s.berth.queue, expected := e, syncLost := false } hq
        (by dsimp only; split <;> simp) hs
      unfold State.resync
      dsimp only
      split
      · exact h.sendStatus h1
      · exact h1

theorem concur (b : Nat) (hb : W.bay b) (hs : P s) : P (s.concur b).state := by
  unfold State.concur State.answer
  repeat (first | exact hs | split)
  exact h.isolate _ hb hs

/-! ### The train master, and the berth requests of the station -/

theorem identify (f : IdentifyFields) (hw : W.berth) (hb : ∀ b, W.bay b) (hs : P s) :
    P (s.identify f).state := by
  unfold State.identify State.answer
  split
  · exact hs
  · split
    · exact hs
    · dsimp only
      split
      · exact hs
      · exact hs
      · split
        · exact h.settlePending hw hb (h.berth _ hw (by exact ⟨rfl, rfl, rfl, rfl⟩) hs)
        · unfold State.identifyRecord State.answer
          split
          · exact hs
          · split
            · split
              · exact h.rewrite _ hw hs
              · exact h.raise _ _ _ (h.rewrite _ hw hs)
            · exact h.settlePending hw hb (h.rewrite _ hw hs)
      · split
        · exact h.settlePending hw hb (h.berth _ hw (by exact ⟨rfl, rfl, rfl, rfl⟩) hs)
        · unfold State.identifyRecord State.answer
          split
          · exact hs
          · split
            · split
              · exact h.rewrite _ hw hs
              · exact h.raise _ _ _ (h.rewrite _ hw hs)
            · exact h.settlePending hw hb (h.rewrite _ hw hs)
      all_goals
        unfold State.identifyLate State.answer
        split
        · exact hs
        · exact h.raise _ _ _ hs

theorem holdOffset (x : Option Mm) (hw : W.berth) (hs : P s) : P (s.holdOffset x) := by
  unfold State.holdOffset
  split
  · exact h.berth _ hw (by exact ⟨rfl, rfl, rfl, rfl⟩) hs
  · exact hs

theorem stop (x : Option Mm) (hw : W.berth) (hb : ∀ b, W.bay b) (hs : P s) : P (s.stop x) := by
  have h1 := h.holdOffset x hw hs
  unfold State.stop State.lateReport
  dsimp only
  split <;> first
    | exact h1
    | exact h.takeStop hw hb h1
    | skip
  all_goals
    split
    · split
      · exact h1
      · exact h.align _ _ hw hb h1
    · exact h1

omit h in
theorem report {f : State → State} (hf : ∀ t, P t → P (f t)) (hs : P s) : P (s.report f).state := by
  unfold State.report State.answer
  split
  · exact hs
  · split
    · exact hs
    · exact hf _ hs

theorem moving (hw : W.berth) (hb : ∀ b, W.bay b) (hs : P s) : P s.noteMovement.movement :=
  h.movement hb (h.noteMovement hw hs)

theorem confirmOpen (hw : W.berth) (hs : P s) : P s.confirmOpen.state := by
  unfold State.confirmOpen State.answer
  repeat (first | exact hs | split)
  exact h.rewrite _ hw hs

theorem confirmBerth (n : Nat) (o : Coded Orientation) (hw : W.berth) (hb : ∀ b, W.bay b) (hs : P s) :
    P (s.confirmBerth n o).state := by
  have c : ∀ x, P (s.confirm n x) := fun x => by
    have h1 := h.clear .identityMismatch none (h.berth { s.berth with
      record := some ((s.berth.record.getD .blank).confirm n x) } hw ⟨rfl, rfl, rfl, rfl⟩ hs)
    unfold State.confirm
    dsimp only
    split <;> first
      | exact h.align _ _ hw hb h1
      | exact h.settlePending hw hb h1
  unfold State.confirmBerth State.answer
  split
  · exact hs
  · split
    · exact hs
    · split <;> first
        | exact hs
        | exact c _

omit h in
theorem probeAlignment (f : ProbeFields) (hs : P s) : P (s.probeAlignment f).state := by
  have c : ∀ x, P (s.probeOn x f).state := fun x => by
    unfold State.probeOn State.answerWith State.answer
    repeat (first | exact hs | split)
  unfold State.probeAlignment State.answer
  split
  · exact hs
  · split <;> exact hs
  · dsimp only
    split
    · exact hs
    · exact c _
  all_goals exact c _

/-! ### Doors -/

omit h in
theorem doorMode {go : State → Answer} (hg : P (go s).state) (hs : P s) : P (s.doorMode go).state := by
  unfold State.doorMode State.answer
  split <;> first
    | exact hs
    | exact hg

theorem openChecked (o : Origin) (hb : ∀ b, W.bay b) (hs : P s) : P (s.openChecked o).state := by
  unfold State.openChecked State.answer
  split <;> first
    | exact hs
    | skip
  all_goals
    split
    · exact hs
    · split
      · exact hs
      · exact h.startOpen _ _ (fun b _ => hb b) hs

theorem closeChecked (o : Origin) (hb : ∀ b, W.bay b) (hs : P s) : P (s.closeChecked o).state := by
  unfold State.closeChecked State.answer
  split
  · exact hs
  · split
    · exact hs
    · exact h.phaseForClose (h.startClose _ _ (fun b _ => hb b) hs)

omit h in
theorem singleBay {b : Nat} {acc : BayState → Bool} {act : State → State} (ha : P (act s)) (hs : P s) :
    P (s.singleBay b acc act).state := by
  unfold State.singleBay State.answer
  repeat (first | exact hs | exact ha | split)

theorem retryBay {b : Nat} (hb : W.bay b) (hs : P s) : P (s.retryBay b) :=
  h.startClosing _ hb (h.bay b _ hb hs)

theorem closeBay {b : Nat} (hb : W.bay b) (hs : P s) : P (s.closeBay b) :=
  h.startClosing _ hb (h.bay b _ hb hs)

theorem clearUsage (b : Option Nat) (hb : ∀ b, W.bay b) (hs : P s) : P (s.clearUsage b).state := by
  unfold State.clearUsage State.answer
  split
  · exact hs
  · split
    · exact Stable.forBays (fun b _ t ht => h.bay b _ (hb b) ht) hs
    · split
      · exact h.bay _ _ (hb _) hs
      · exact hs

theorem queueIsolation {b : Nat} (hb : W.bay b) (hd : W.doors) (hs : P s) : P (s.queueIsolation b) :=
  h.bay b _ hb (h.doors _ hd hs)

theorem isolateBay {b : Nat} (hb : W.bay b) (hd : W.doors) (hs : P s) : P (s.isolateBay b).state := by
  unfold State.isolateBay State.answer
  repeat (first | exact hs | exact h.queueIsolation hb hd hs | split)

theorem deisolateBay {b : Nat} (hb : W.bay b) (hs : P s) : P (s.deisolateBay b).state := by
  have h1 := h.enterState .locked hb hs
  unfold State.deisolateBay State.answer
  repeat (first | exact hs | exact h1 | split)

theorem restoreBay {b : Nat} (hb : W.bay b) (he : W.emer) (hs : P s) : P (s.restoreBay b).state := by
  unfold State.restoreBay State.answer
  repeat (first | exact hs | exact h.restore hb he hs | split)

theorem rearmRequest (hb : ∀ b, W.bay b) (he : W.emer) (hm : W.mode) (hs : P s) :
    P s.rearmRequest.state := by
  unfold State.rearmRequest State.answer
  repeat (first | exact hs | exact h.rearm hb he hm hs | split)

/-! ### Commissioning -/

theorem enterCommissioningRequest (ht : W.store) (hm : W.mode) (hs : P s) :
    P s.enterCommissioningRequest.state := by
  have h1 : P s.enterCommissioning := h.setMode _ hm (h.store _ ht hs)
  unfold State.enterCommissioningRequest State.answer
  repeat (first | exact hs | exact h1 | split)

theorem write (f : Content → Written) (ht : W.store) (hs : P s) : P (s.write f).state := by
  unfold State.write State.answer
  split
  · exact hs
  · split
    · exact hs
    · split
      · exact hs
      · exact h.store _ ht hs

theorem commitChecked (b : Bool) (ht : W.store) (hs : P s) : P (s.commitChecked b).state := by
  unfold State.commitChecked State.answer
  split <;> first
    | exact hs
    | exact h.store _ ht hs

omit h in
theorem leaveChecked {go : State → Answer} (hg : P (go s).state) (hs : P s) :
    P (s.leaveChecked go).state := by
  unfold State.leaveChecked State.answer
  repeat (first | exact hs | exact hg | split)

theorem testBayStep {b : Nat} (hb : W.bay b) (hs : P s) : P (s.testBayStep b).state := by
  have c : ∀ t, P t → P (t.setBay b (Bay.beginStep t.now)) := fun t ht => h.bay b _ hb ht
  have h1 : P (s.testStep b) := by
    unfold State.testStep
    dsimp only
    split
    · exact c _ (h.enterState _ hb hs)
    · exact c _ hs
  unfold State.testBayStep State.answer
  repeat (first | exact hs | exact h1 | split)

theorem restart (hu : W.startup) (hs : P s) : P s.restart.state := by
  have h1 := h.enterStartup .restart hu hs
  unfold State.restart State.answer
  repeat (first | exact hs | exact h1 | split)

/-! ### Taking a request or an event -/

theorem refuseAuthority (r : Req) (k : ReqKind) (hs : P s) : P (s.refuseAuthority r k).state :=
  h.raise _ _ _ hs

theorem decideRequest {r : Req} {k : ReqKind} {l : Bool} {owner : State → Answer}
    (ho : P (owner s).state) (hs : P s) : P (s.decideRequest r k l owner).state := by
  unfold State.decideRequest
  split
  · exact hs
  · split
    · exact h.refuseAuthority r k hs
    · exact ho

theorem event {f : State → State} (hf : ∀ t, P t → P (f t)) (hw : W.secure) (hp : s.powered = true)
    (hs : P s.begin_) : P (s.event f) := by
  unfold State.event
  rw [if_pos hp]
  exact h.finish hw (hf _ hs)

end Stable

end Sys2Proof.Machine
end

