-- ==== Sys2Proof/Laws/Closed.lean ====
section
/-!
SUPPORT. What every command can touch. `Closed P` says that `P` survives each kind of change a command
of the part makes, and `Closed.exec` that it then survives every command but the loss of the supply, which
the caller looks at by itself. An invariant of the machine is shown by giving `Closed P`.
-/
namespace Sys2Proof.Machine
open Sys2Proof

/-- Every part of the state. -/
def Touch.all : Touch :=
  ⟨fun _ => True, True, True, True, True, True, True, True, True, True, True, True⟩

/-- `P` survives every kind of change a command of the part makes. -/
structure Closed (P : State → Prop) : Prop extends Stable Touch.all P where
  sending : ∀ {s : State} (x : SendState), P s → P { s with send := x }
  lines : ∀ {s : State} (x : Lines), P s → P { s with lines := x }
  append : ∀ {s : State} (a : Approach) (e : Option Nat), s.berth.queue.length < queueLimit →
    comesAfterTail s.berth.queue a.seq = true → P s →
    P { s with berth := { s.berth with queue := s.berth.queue ++ [a], expected := e } }
  acked : ∀ {s : State} (x : List AlarmEntry × AlarmEntry), ackFirst s.alarms.entries = some x → P s →
    P { s with alarms := { s.alarms with entries := x.1 } }
  purged : ∀ {s : State}, P s → P { s with alarms := s.alarms.purge }

variable {P : State → Prop} (h : Closed P) {s : State}

namespace Closed
include h

theorem appendApproach (f : AppendFields) (hs : P s) : P (s.appendApproach f).state := by
  have st := h.toStable
  have j : ∀ (t : State) (a : Approach) (c : Bool), t.berth.queue.length < queueLimit → P t →
      P (t.joinQueue a c).state := fun t a c hl ht => by
    unfold State.joinQueue State.answer
    split
    · rename_i ha
      exact st.sendStatus (h.append a _ hl ha ht)
    · exact ht
  unfold State.appendApproach State.answer
  split
  · exact hs
  · split
    · exact hs
    · split
      · exact hs
      · split
        · exact hs
        · rename_i hl
          split
          · exact hs
          · unfold State.sequenceAppend State.answer State.loseSync
            split
            · exact j _ _ _ (by omega) hs
            · split
              · exact j _ _ _ (by omega) hs
              · split
                · exact st.sendStatus (st.queue _ trivial (List.Sublist.refl _) hs)
                · exact j _ _ _ (by simpa using hl) (st.raise _ _ _ hs)

theorem ackNext (hs : P s) : P s.ackNext.state := by
  have st := h.toStable
  have c : ∀ t, P t → P t.intrusionAcked := fun t ht => by
    have h1 := st.clear .trackIntrusion none (st.sense { t.sense with intrusion := .clear } trivial ht)
    unfold State.intrusionAcked
    dsimp only
    split
    · split
      · exact st.startWatch trivial (fun _ => trivial) h1
      · exact h1
    · exact ht
  unfold State.ackNext State.answer State.answerWith
  split
  · exact hs
  · rename_i es e he
    have h1 := h.acked (es, e) he hs
    dsimp only
    split
    · exact c _ h1
    · exact h1

theorem purgeAlarms (hs : P s) : P s.purgeAlarms.state := by
  have st := h.toStable
  have c : ∀ t, P t → P t.reraiseIntrusion := fun t ht => by
    unfold State.reraiseIntrusion
    split
    · exact st.raise _ _ _ ht
    · exact ht
  exact c _ (h.purged hs)

theorem setNoticeMask (p : Coded Port) (c : Byte) (hs : P s) : P (s.setNoticeMask p c).state := by
  unfold State.setNoticeMask State.answer
  split
  · exact h.sending _ hs
  · exact hs

theorem event {f : State → State} (hf : ∀ t, P t → P (f t)) (hs : P s) : P (s.event f) := by
  unfold State.event
  split
  · exact h.toStable.finish trivial (hf _ (h.sending _ hs))
  · exact hs

theorem lineEvent {f : Lines → Lines} {act : State → State} (hf : ∀ t, P t → P (act t)) (hs : P s) :
    P (s.lineEvent f act) := h.event hf (h.lines _ hs)

theorem takeFrame {r : Req} {k : Nat} {d : State → Answer} (hd : ∀ t, P t → P (d t).state) (hs : P s) :
    P (s.takeFrame r k d) := by
  have st := h.toStable
  have h0 : P s.begin_ := h.sending _ hs
  have c : ∀ (t : State) n f, P t → P ((t.sendReply n f).stationTurn r.port) := fun t n f ht => by
    unfold State.stationTurn
    split
    · exact h.sending _ (h.sending _ ht)
    · exact h.sending _ ht
  unfold State.takeFrame
  split
  · exact hs
  · split
    · exact st.finish trivial h0
    · exact c _ _ _ (st.finish trivial (hd _ (st.goodFrame _ trivial h0)))

theorem request {r : Req} {k : ReqKind} {o : State → Answer} (ho : ∀ t, P t → P (o t).state)
    (hs : P s) : P (s.request_ r k o) :=
  h.takeFrame (fun _ ht => h.toStable.decideRequest (ho _ ht) ht) hs

theorem trainLossExpiry (hs : P s) : P s.trainLossExpiry := by
  have st := h.toStable
  unfold State.trainLossExpiry
  split
  · exact st.trainLost (fun _ => trivial) (h.sending _ (st.link { s.link with trainUp := false } trivial hs))
  · exact hs

theorem noticeIntervalEnd (p : Port) (c : NoticeClass) (hs : P s) : P (s.noticeIntervalEnd p c) := by
  unfold State.noticeIntervalEnd
  split
  · exact hs
  · exact h.sending _ hs

/-- What survives every kind of change survives every command but the loss of the supply. -/
theorem exec {i : Instr} {t : State} (hl : i = .powerLoss → P t) (hs : P s)
    (he : Machine.exec i s = .next t) : P t := by
  have st := h.toStable
  have T : ∀ b : Nat, Touch.all.bay b := fun _ => trivial
  cases i with
  | powerLoss => exact hl rfl
  | powerOn =>
    cases he
    exact st.finish trivial (st.enterStartup _ trivial (h.sending _ hs))
  | loadSucceeded =>
    cases he
    exact h.event (fun _ ht => st.loadSucceeded trivial trivial trivial T trivial trivial trivial trivial ht) hs
  | loadFailed =>
    cases he
    exact h.event (fun _ ht => st.loadFailed trivial trivial trivial T trivial trivial trivial trivial ht) hs
  | heartbeat r => cases he; exact h.request (fun _ ht => st.heartbeat trivial trivial ht) hs
  | appendApproach r f => cases he; exact h.request (fun _ ht => h.appendApproach f ht) hs
  | withdrawApproach r n => cases he; exact h.request (fun _ ht => st.withdrawApproach n trivial ht) hs
  | resyncQueue r e c => cases he; exact h.request (fun _ ht => st.resyncQueue e c trivial ht) hs
  | isolationConcurrence r b => cases he; exact h.request (fun _ ht => st.concur b trivial ht) hs
  | statusRequest r => cases he; exact h.request (fun _ ht => ht) hs
  | identify r f => cases he; exact h.request (fun _ ht => st.identify f trivial T ht) hs
  | stopped r o => cases he; exact h.request (fun _ ht => Stable.report (fun _ hu => st.stop o trivial T hu) ht) hs
  | moving r => cases he; exact h.request (fun _ ht => Stable.report (fun _ hu => st.moving trivial T hu) ht) hs
  | openRequest r => cases he; exact h.request (fun _ ht => Stable.doorMode (st.openChecked _ T ht) ht) hs
  | openStation r => cases he; exact h.request (fun _ ht => Stable.doorMode (st.openChecked _ T ht) ht) hs
  | closeRequest r => cases he; exact h.request (fun _ ht => Stable.doorMode (st.closeChecked _ T ht) ht) hs
  | closeStation r => cases he; exact h.request (fun _ ht => Stable.doorMode (st.closeChecked _ T ht) ht) hs
  | statusRead r => cases he; exact h.request (fun _ ht => ht) hs
  | bayRead r b => cases he; exact h.request (fun _ ht => by split <;> exact ht) hs
  | alarmRead r n => cases he; exact h.request (fun _ ht => by split <;> exact ht) hs
  | queueRead r => cases he; exact h.request (fun _ ht => ht) hs
  | ackNext r => cases he; exact h.request (fun _ ht => h.ackNext ht) hs
  | purgeAlarms r => cases he; exact h.request (fun _ ht => h.purgeAlarms ht) hs
  | confirmOpen r => cases he; exact h.request (fun _ ht => st.confirmOpen trivial ht) hs
  | retryBay r b => cases he; exact h.request (fun _ ht => Stable.singleBay (st.retryBay trivial ht) ht) hs
  | closeBay r b => cases he; exact h.request (fun _ ht => Stable.singleBay (st.closeBay trivial ht) ht) hs
  | restoreBay r b => cases he; exact h.request (fun _ ht => st.restoreBay trivial trivial ht) hs
  | probeAlignment r f => cases he; exact h.request (fun _ ht => Stable.probeAlignment f ht) hs
  | clearUsage r b => cases he; exact h.request (fun _ ht => st.clearUsage b T ht) hs
  | setNoticeMask r p c => cases he; exact h.request (fun _ ht => h.setNoticeMask p c ht) hs
  | confirmBerth r n o => cases he; exact h.request (fun _ ht => st.confirmBerth n o trivial T ht) hs
  | isolateBay r b => cases he; exact h.request (fun _ ht => st.isolateBay trivial trivial ht) hs
  | deisolateBay r b => cases he; exact h.request (fun _ ht => st.deisolateBay trivial ht) hs
  | rearm r => cases he; exact h.request (fun _ ht => st.rearmRequest T trivial trivial ht) hs
  | enterCommissioning r => cases he; exact h.request (fun _ ht => st.enterCommissioningRequest trivial trivial ht) hs
  | writeGeometry r f => cases he; exact h.request (fun _ ht => st.write _ trivial ht) hs
  | writeProfile r f => cases he; exact h.request (fun _ ht => st.write _ trivial ht) hs
  | writeParameters r f =>
    cases he
    exact h.takeFrame (fun _ ht => st.decideRequest (st.write _ trivial ht) ht) hs
  | commit r =>
    cases he
    exact h.request (fun t ht => by
      split
      · exact ht
      · exact st.commitChecked _ trivial ht) hs
  | exitCommissioning r =>
    cases he
    exact h.request (fun _ ht => Stable.leaveChecked (P := P) (by exact st.enterStartup .commissioning trivial ht) ht) hs
  | commitAndExit r =>
    cases he
    exact h.request (fun _ ht => Stable.leaveChecked (st.commitChecked _ trivial ht) ht) hs
  | commitWriteEnd => cases he; exact h.event (fun _ ht => st.commitWriteEnd trivial trivial ht) hs
  | testBayStep r b => cases he; exact h.request (fun _ ht => st.testBayStep trivial ht) hs
  | restart r => cases he; exact h.request (fun _ ht => st.restart trivial ht) hs
  | frameBad p => cases he; exact h.event (fun _ ht => ht) hs
  | frameNotRequest p a k => cases he; exact h.event (fun _ ht => st.goodFrame p trivial ht) hs
  | frameOtherAddress a k => cases he; exact h.event (fun _ ht => ht) hs
  | unknownRequestKind r k => cases he; exact h.takeFrame (fun _ ht => ht) hs
  | beamChange b v =>
    simp only [Machine.exec, execBeamChange] at he
    split at he <;> cases he
    · exact h.event (fun _ ht => ht) hs
    · exact h.lineEvent (fun _ ht => st.patternChanged b v trivial trivial trivial T ht) hs
  | beamStop => cases he; exact h.event (fun _ ht => st.beamStop trivial T ht) hs
  | departClear => cases he; exact h.event (fun _ ht => st.clearComplete _ trivial trivial T ht) hs
  | occupiedClear => cases he; exact h.event (fun _ ht => st.clearComplete _ trivial trivial T ht) hs
  | dwellExpiry => cases he; exact h.event (fun _ ht => st.dwellExpiry ht) hs
  | evacAsserted =>
    simp only [Machine.exec, execEvacAsserted] at he
    split at he <;> cases he
    · exact h.event (fun _ ht => ht) hs
    · exact h.lineEvent (fun t ht => by
        split
        · exact ht
        · exact st.evacuate T trivial trivial ht) hs
  | evacReleased =>
    simp only [Machine.exec, execEvacReleased] at he
    split at he <;> cases he
    · exact h.lineEvent (fun t ht => by
        split
        · exact ht
        · exact st.endEvacuation trivial ht) hs
    · exact h.event (fun _ ht => ht) hs
  | keyChange v => cases he; exact h.lineEvent (fun _ ht => st.link _ trivial ht) hs
  | addrChange a => cases he; exact h.lineEvent (fun _ ht => ht) hs
  | readbackChange c v => cases he; exact h.lineEvent (fun _ ht => ht) hs
  | outputFault c => cases he; exact h.event (fun _ ht => st.outputFault c trivial ht) hs
  | poll => cases he; exact h.event (fun _ ht => st.poll trivial ht) hs
  | nodeReply r => cases he; exact h.event (fun _ ht => st.nodeReply r trivial trivial trivial trivial ht) hs
  | nodeReplyMissed => cases he; exact h.event (fun _ ht => st.nodeReplyMissed trivial T ht) hs
  | openTimeout b => cases he; exact h.event (fun _ ht => st.openTimeout trivial ht) hs
  | closeTimeout b => cases he; exact h.event (fun _ ht => st.closeTimeout trivial ht) hs
  | doorwayHoldExpiry b => cases he; exact h.event (fun _ ht => st.doorwayHoldExpiry trivial ht) hs
  | reopenHoldExpiry b => cases he; exact h.event (fun _ ht => st.reopenHoldExpiry trivial ht) hs
  | discrepancyTimerExpiry b => cases he; exact h.event (fun _ ht => st.discrepancyTimerExpiry trivial ht) hs
  | recoveryTimerExpiry b => cases he; exact h.event (fun _ ht => st.recoveryTimerExpiry trivial ht) hs
  | stepTimeLimitExpiry b => cases he; exact h.event (fun _ ht => st.stepTimeLimitExpiry trivial ht) hs
  | presenceStuck b => cases he; exact h.event (fun _ ht => st.presenceStuck trivial ht) hs
  | gapCheckPassed b => cases he; exact h.event (fun _ ht => st.gapCheckPassed trivial ht) hs
  | gapCheckFailed b => cases he; exact h.event (fun _ ht => st.gapCheckFailed trivial ht) hs
  | trackIntrusion b => cases he; exact h.event (fun _ ht => st.trackIntrusion trivial trivial ht) hs
  | intrusionClear => cases he; exact h.event (fun _ ht => st.intrusionClear trivial T ht) hs
  | sigWatchdogExpiry => cases he; exact h.event (fun _ ht => st.sigWatchdogExpiry trivial trivial trivial ht) hs
  | trainLossExpiry => cases he; exact h.event (fun _ ht => h.trainLossExpiry ht) hs
  | isolationExpired b => cases he; exact h.event (fun _ ht => st.isolationExpired trivial ht) hs
  | noticeIntervalEnd p c => cases he; exact h.event (fun _ ht => h.noticeIntervalEnd p c ht) hs

end Closed

end Sys2Proof.Machine
end

