-- ==== Sys2Proof/Laws/Bays.lean ====
section
/-!
SUPPORT. Bay records: reading a bay after a change of one, what a bay's record is after it has entered a
state, and the frame of every operation on one bay.
-/
namespace Sys2Proof.Machine
open Sys2Proof

theorem getD_modify_self {α : Type} (l : List α) (i : Nat) (f : α → α) (d : α)
    (hi : i < l.length) : (l.modify i f).getD i d = f (l.getD i d) := by
  simp [List.getD, hi]

theorem getD_modify_ne {α : Type} (l : List α) {i j : Nat} (f : α → α) (d : α) (h : i ≠ j) :
    (l.modify i f).getD j d = l.getD j d := by
  simp [List.getD, h]

/-- Bay `b` after its own change. -/
theorem State.bay_setBay_self {s : State} {b : Nat} (f : Bay → Bay) (h1 : 1 ≤ b)
    (h2 : b ≤ s.bays.length) : (s.setBay b f).bay b = f (s.bay b) := by
  have h0 : b ≠ 0 := by omega
  simp only [State.bay, State.setBay, if_neg h0]
  exact getD_modify_self _ _ _ _ (by omega)

/-- Another bay after a change of bay `b`. -/
theorem State.bay_setBay_ne {s : State} {b c : Nat} (f : Bay → Bay) (h : c ≠ b) :
    (s.setBay b f).bay c = s.bay c := by
  by_cases hb : b = 0
  · simp [State.setBay, State.bay, hb]
  · by_cases hc : c = 0
    · simp [State.bay, hc]
    · simp only [State.bay, State.setBay, if_neg hb, if_neg hc]
      exact getD_modify_ne _ _ _ (by omega)

@[simp] theorem State.setBay_length (s : State) (b : Nat) (f : Bay → Bay) :
    (s.setBay b f).bays.length = s.bays.length := by
  unfold State.setBay
  dsimp only
  split <;> simp

/-- Only the bays in `B` changed: this survives every operation that touches no other bay. -/
theorem Stable.onlyBays (B : Nat → Prop) (s : State) :
    Stable { bay := B, secure := True } (State.OnlyBays B s) where
  send x _ g := ⟨g.1, g.2, g.3, g.4, g.5⟩
  bay b f hb g := ⟨g.1, g.2, g.3, g.4, fun c hc =>
    (State.bay_setBay_ne f (fun e => by subst e; exact hc hb)).trans (g.5 c hc)⟩
  bays x hb _ g := ⟨g.1, g.2, g.3, g.4, fun c hc => absurd (hb c) hc⟩
  record f hf g := ⟨g.1, g.2, g.3, by
    refine Eq.trans ?_ g.4
    simp only [State.setRecord, BerthState.rest, Option.map_map]
    congr 2
    funext r
    exact hf r, g.5⟩
  phase p c g := ⟨g.1, g.2, g.3, g.4, g.5⟩
  berth _ h := h.elim
  queue _ h := h.elim
  operation o g := ⟨g.1, g.2, g.3, g.4, g.5⟩
  removal p g := ⟨g.1, g.2, g.3, g.4, g.5⟩
  doors _ h := h.elim
  alarm k b d g := ⟨g.1, g.2, g.3, g.4, g.5⟩
  cleared p g := ⟨g.1, g.2, g.3, g.4, g.5⟩
  sense _ h := h.elim
  emer _ h := h.elim
  mode _ h := h.elim
  link _ h := h.elim
  bus _ h := h.elim
  secure x _ g := ⟨g.1, g.2, g.3, g.4, g.5⟩
  store _ h := h.elim
  startup _ h := h.elim

theorem State.OnlyBays.refl (B : Nat → Prop) (s : State) : State.OnlyBays B s s :=
  ⟨rfl, rfl, rfl, rfl, fun _ _ => rfl⟩

theorem State.OnlyBays.mono {B C : Nat → Prop} {s t : State} (h : State.OnlyBays B s t)
    (hb : ∀ c, B c → C c) : State.OnlyBays C s t :=
  ⟨h.1, h.2, h.3, h.4, fun c hc => h.5 c fun g => hc (hb c g)⟩

theorem State.OnlyBays.trans {B : Nat → Prop} {s t u : State} (h : State.OnlyBays B s t)
    (g : State.OnlyBays B t u) : State.OnlyBays B s u :=
  ⟨g.1.trans h.1, g.2.trans h.2, g.3.trans h.3, g.4.trans h.4, fun c hc => (g.5 c hc).trans (h.5 c hc)⟩

/-- The number of bay records: it survives everything. -/
theorem Stable.length (W : Touch) (n : Nat) (hst : ¬ W.startup) :
    Stable W fun s => s.bays.length = n where
  send _ _ g := g
  bay b f _ g := by rw [State.setBay_length]; exact g
  bays x _ e g := e.trans g
  record _ _ g := g
  phase _ _ g := g
  berth _ _ _ g := g
  queue _ _ _ g := g
  operation _ g := g
  removal _ g := g
  doors _ _ g := g
  alarm _ _ _ g := g
  cleared _ g := g
  sense _ _ g := g
  emer _ _ g := g
  mode _ _ g := g
  link _ _ g := g
  bus _ _ g := g
  secure _ _ g := g
  store _ _ g := g
  startup _ h := absurd h hst

/-- No bay at all changed: what no operation on the outcome, the map or the messages touches. -/
theorem Stable.noBay (s : State) : Stable { bay := fun _ => False, secure := True }
    (State.OnlyBays (fun _ => False) s) := Stable.onlyBays _ s

/-- A bay record but for its gap check, its commissioning step and its isolation field. -/
def Bay.core (y : Bay) : Bay :=
  { y with gap := .notRequired, gapFrom := none, step := none, isolation := .notIsolated }

section
variable {s : State} {b : Nat} (h1 : 1 ≤ b) (h2 : b ≤ s.bays.length)
include h1 h2

theorem State.resetGap_bay :
    (s.resetGap b).bay b = { s.bay b with gap := .notRequired, gapFrom := none } := by
  unfold State.resetGap
  dsimp only
  split <;> exact State.bay_setBay_self _ h1 h2

theorem State.endStep_core (x : StepResult) : ((s.endStep b x).bay b).core = (s.bay b).core := by
  unfold State.endStep
  split
  · rename_i pos st _ _ _
    have e := State.bay_setBay_self (s := s) (fun y : Bay =>
      { y with step := some ⟨if x = .complete then st.after else pos, none, some x⟩ }) h1 h2
    exact (congrArg Bay.core e).trans rfl
  · rfl

theorem State.dropRequest_bay :
    (s.dropRequest b).bay b = { s.bay b with isolation := .notIsolated } :=
  State.bay_setBay_self (s := { s with doors := { s.doors with requests := _ } }) _ h1 h2

/-- Leaving a state touches the gap check, the commissioning step and the isolation field alone. -/
theorem State.leaveState_core (old : Option BayState) (st : BayState) :
    ((s.leaveState b old st).bay b).core = (s.bay b).core := by
  have key : ∀ (t : State), t.bays.length = s.bays.length →
      (t.bay b).core = (s.bay b).core → ∀ c : Bool,
      ((if c then State.resetGap b t else t).bay b).core = (s.bay b).core := fun t ht e c => by
    cases c
    · exact e
    · exact (congrArg Bay.core (State.resetGap_bay h1 (by omega))).trans e
  have L := Stable.length { bay := fun _ => True } s.bays.length id
  have l1 : ∀ c : Bool, (if c then State.resetGap b s else s).bays.length = s.bays.length := fun c => by
    cases c
    · rfl
    · exact L.resetGap trivial rfl
  have key2 : ∀ (t : State) (c : Bool), (if c then t.clear .obstructionHeld (some b) else t).bays = t.bays :=
    fun t c => by cases c <;> rfl
  have key3 : ∀ (t : State) (c : Bool), (if c then ((t.clear .openTimeout (some b)).clear .closeTimeout
      (some b)).clear .provingDiscrepant (some b) else t).bays = t.bays := fun t c => by cases c <;> rfl
  have key4 : ∀ (t : State), t.bays.length = s.bays.length → (t.bay b).core = (s.bay b).core →
      ∀ c : Bool, ((if c then (State.endStep b .failed t).setBay b fun y => { y with step := none }
        else t).bay b).core = (s.bay b).core ∧
        (if c then (State.endStep b .failed t).setBay b fun y => { y with step := none }
        else t).bays.length = s.bays.length := fun t ht e c => by
    have l := L.endStep (b := b) .failed trivial ht
    cases c
    · exact ⟨e, ht⟩
    · exact ⟨((congrArg Bay.core (State.bay_setBay_self _ h1 (by omega))).trans
        (State.endStep_core h1 (by omega) .failed)).trans e, (State.setBay_length _ _ _).trans l⟩
  unfold State.leaveState
  dsimp only
  generalize hc1 : (old.any (· == .locked) && st != .locked) = c1
  have e1 := key s rfl rfl c1
  have m1 := l1 c1
  generalize (if c1 = true then State.resetGap b s else s) = t1 at *
  generalize (old.any BayState.isHeld && !st.isHeld) = c2
  have e2 : ((if c2 then t1.clear .obstructionHeld (some b) else t1).bay b).core = (s.bay b).core := by
    unfold State.bay; rw [key2]; exact e1
  have m2 := (congrArg List.length (key2 t1 c2)).trans m1
  generalize (if c2 = true then t1.clear .obstructionHeld (some b) else t1) = t2 at *
  generalize (old.any BayState.isFault && !st.isFault) = c3
  have e3 : ((if c3 then ((t2.clear .openTimeout (some b)).clear .closeTimeout (some b)).clear
      .provingDiscrepant (some b) else t2).bay b).core = (s.bay b).core := by
    unfold State.bay; rw [key3]; exact e2
  have m3 := (congrArg List.length (key3 t2 c3)).trans m2
  generalize (if c3 = true then ((t2.clear .openTimeout (some b)).clear .closeTimeout (some b)).clear
      .provingDiscrepant (some b) else t2) = t3 at *
  obtain ⟨e4, m4⟩ := key4 t3 m3 e3 (st != .test)
  generalize (if (st != .test) = true then _ else t3) = t4 at *
  have e5 : ((t4.dropRequest b).bay b).core = (s.bay b).core :=
    (congrArg Bay.core (State.dropRequest_bay h1 (by omega))).trans e4
  split
  · split
    · exact e5
    · exact e5
  · exact e4

/-- The record of a bay that has entered a state: that of `Bay.enter`, with the evac-opened flag set
where it opened under EVAC_OPEN. -/
theorem State.enterState_bay (st : BayState) : ∃ y e, y.core = (s.bay b).core ∧
    (st ≠ .opened → e = y.evacOpened) ∧
    (s.enterState b st).bay b = { Bay.enter st s.now y with evacOpened := e } := by
  have l : (s.leaveState b (s.bay b).state st).bays.length = s.bays.length :=
    (Stable.length { bay := fun _ => True } s.bays.length id).leaveState (s.bay b).state st trivial rfl
  have e1 := State.bay_setBay_self (s := s.leaveState b (s.bay b).state st) (Bay.enter st s.now) h1 (by omega)
  have l1 : ((s.leaveState b (s.bay b).state st).setBay b (Bay.enter st s.now)).bays.length = s.bays.length :=
    (State.setBay_length _ _ _).trans l
  have tail : ∀ t : State, (t.handOn b st).bay b = t.bay b := fun t =>
    ((Stable.noBay t).handOn b st (State.OnlyBays.refl _ t)).5 b id
  refine ⟨(s.leaveState b (s.bay b).state st).bay b, ?_⟩
  unfold State.enterState
  dsimp only
  rw [tail]
  split
  · rename_i ho
    unfold State.noteOpened
    dsimp only
    split
    · split
      · refine ⟨true, State.leaveState_core h1 h2 (s.bay b).state st, fun k => absurd ho k, ?_⟩
        refine (State.bay_setBay_self (s := ((s.leaveState b (s.bay b).state st).setBay b
          (Bay.enter st s.now)).setRecord _) _ h1 (by exact l1 ▸ h2)).trans ?_
        exact congrArg (fun y : Bay => { y with evacOpened := true }) e1
      · exact ⟨_, State.leaveState_core h1 h2 (s.bay b).state st, fun k => absurd ho k, e1⟩
    · exact ⟨_, State.leaveState_core h1 h2 (s.bay b).state st, fun k => absurd ho k, e1⟩
  · exact ⟨_, State.leaveState_core h1 h2 (s.bay b).state st, fun _ => rfl, e1⟩

/-- A released bay is RELEASED, whatever of the change is handed on after its entry (R120). -/
theorem State.joinRelease_state (c : ReleaseContact) :
    ((s.joinRelease b c).bay b).state = some .released := by
  have key : ∀ t u : State, State.OnlyBays (fun _ => False) u t → u.bays.length = t.bays.length →
      u.bays = (s.setBay b (Bay.enter .released s.now)).bays →
      ((t.leaveState b (s.bay b).state .released).bay b).state = some .released := fun t u o l e => by
    have l1 : t.bays.length = s.bays.length := by rw [← l, e]; exact State.setBay_length _ _ _
    have e1 : u.bay b = Bay.enter .released s.now (s.bay b) := by
      rw [← State.bay_setBay_self (s := s) (Bay.enter .released s.now) h1 h2]
      unfold State.bay
      rw [e]
    refine (congrArg Bay.state (State.leaveState_core (s := t) h1 (by omega) _ _)).trans ?_
    exact congrArg Bay.state ((o.5 b id).trans e1)
  let u : State := { s.setBay b (Bay.enter .released s.now) with
    emer := { s.emer with released := insertRelease b c s.emer.released } }
  have N := Stable.noBay u
  have L := Stable.length { bay := fun _ => False } u.bays.length id
  exact key _ u
    (N.handOn _ _ (N.notice _ (N.flagStatus _ (N.raise _ _ _ (State.OnlyBays.refl _ u)))))
    (L.handOn _ _ (L.notice _ (L.flagStatus _ (L.raise _ _ _ rfl)))).symm rfl

/-- A bay that has entered a state is in it. -/
theorem State.enterState_state (st : BayState) : ((s.enterState b st).bay b).state = some st := by
  obtain ⟨y, e, -, -, h⟩ := State.enterState_bay h1 h2 st
  rw [h]
  rfl

end

/-- Other bays stand while bay `b` enters a state. -/
theorem State.enterState_ne (s : State) {b c : Nat} (st : BayState) (h : c ≠ b) :
    (s.enterState b st).bay c = s.bay c :=
  ((Stable.onlyBays (· = b) s).enterState st rfl (State.OnlyBays.refl _ s)).5 c h

end Sys2Proof.Machine
end

