-- ==== Sys2Proof/Laws/Finish.lean ====
section
/-!
SUPPORT. What the end of every command establishes (`State.finish`): the state is settled, a settled state
is left as it is, and what it leaves of any other.
-/
namespace Sys2Proof.Machine
open Sys2Proof

/-! ### Parts that `finish` leaves -/

/-- No bay, and nothing else but phase, secure state, alarms and frames, changes. -/
theorem State.finish_onlyBays (s : State) : State.OnlyBays (fun _ => False) s s.finish :=
  (Stable.noBay s).finish trivial (State.OnlyBays.refl _ s)

theorem State.finish_bay (s : State) (b : Nat) : s.finish.bay b = s.bay b := s.finish_onlyBays.5 b id

theorem State.finish_setting (s : State) : s.finish.setting = s.setting := s.finish_onlyBays.1

@[simp] theorem State.setPhase_setting (s : State) (p : Phase) : (s.setPhase p).setting = s.setting :=
  ((Stable.noBay s).setPhase p (State.OnlyBays.refl _ s)).1

@[simp] theorem State.setPhase_doors (s : State) (p : Phase) : (s.setPhase p).doors = s.doors := by
  unfold State.setPhase; split <;> rfl

@[simp] theorem State.setPhase_bays (s : State) (p : Phase) : (s.setPhase p).bays = s.bays := by
  unfold State.setPhase; split <;> rfl

@[simp] theorem State.setPhase_record (s : State) (p : Phase) :
    (s.setPhase p).berth.record = s.berth.record := by
  unfold State.setPhase; split <;> rfl

@[simp] theorem State.setPhase_secure (s : State) (p : Phase) : (s.setPhase p).secure = s.secure := by
  unfold State.setPhase; split <;> rfl

@[simp] theorem State.setPhase_alarms (s : State) (p : Phase) : (s.setPhase p).alarms = s.alarms := by
  unfold State.setPhase; split <;> rfl

@[simp] theorem State.setPhase_sense (s : State) (p : Phase) : (s.setPhase p).sense = s.sense := by
  unfold State.setPhase; split <;> rfl

@[simp] theorem State.setPhase_emer (s : State) (p : Phase) : (s.setPhase p).emer = s.emer := by
  unfold State.setPhase; split <;> rfl

@[simp] theorem State.setPhase_lines (s : State) (p : Phase) : (s.setPhase p).lines = s.lines := by
  unfold State.setPhase; split <;> rfl

@[simp] theorem State.setPhase_mode (s : State) (p : Phase) : (s.setPhase p).mode = s.mode := by
  unfold State.setPhase; split <;> rfl

@[simp] theorem State.setPhase_now (s : State) (p : Phase) : (s.setPhase p).now = s.now := by
  unfold State.setPhase; split <;> rfl

@[simp] theorem State.setPhase_phase (s : State) (p : Phase) : (s.setPhase p).berth.phase = p := by
  unfold State.setPhase
  split
  · assumption
  · rfl

theorem State.setPhase_self (s : State) : s.setPhase s.berth.phase = s := by
  unfold State.setPhase
  rw [if_pos rfl]

/-! ### Equal parts give equal judgements -/

/-- What the judgements of `finish` read of a state, apart from phase and alarms. -/
structure SameGround (s t : State) : Prop where
  mode : t.mode = s.mode ∨ (t.mode = .normal ∨ t.mode = .localMode) ∧ (s.mode = .normal ∨ s.mode = .localMode)
  bays : t.bays = s.bays
  doors : t.doors = s.doors
  map : ∀ b, t.mapClass b = s.mapClass b
  sense : t.sense = s.sense
  cause : t.noCause = s.noCause
  latched : t.secure.latched = s.secure.latched

theorem SameGround.judge {s t : State} (h : SameGround s t) : t.judge = s.judge := by
  unfold State.judge State.someBayNotLocked State.someGapOpen State.bayIs State.bay State.tableBays
  rw [h.bays, h.doors, h.sense, h.cause, h.latched]
  rcases h.mode with m | ⟨m, n⟩
  · rw [m]
  · rcases m with m | m <;> rcases n with n | n <;> rw [m, n] <;> rfl

theorem SameGround.served {s t : State} (h : SameGround s t) : t.servedShut = s.servedShut := by
  have e : t.isServed = s.isServed := by
    funext b
    unfold State.isServed State.matchedDoor
    rw [h.map b]
  unfold State.servedShut State.servedBays State.bayIs State.bay State.tableBays
  rw [h.bays, h.doors, e]

theorem SameGround.settledPhase {s t : State} (h : SameGround s t)
    (hp : t.berth.phase = s.berth.phase) : t.settledPhase = s.settledPhase := by
  have g : t.someGapOpen = s.someGapOpen := by
    unfold State.someGapOpen State.bay State.tableBays
    rw [h.bays, h.doors]
  have b : t.busy = s.busy := by
    unfold State.busy
    rw [h.doors]
  unfold State.settledPhase
  rw [hp, h.served, g, b]

/-- The settled phase is settled. -/
theorem State.settledPhase_idem {s t : State} (h : SameGround s t)
    (hp : t.berth.phase = s.settledPhase) : t.settledPhase = t.berth.phase := by
  have g : t.someGapOpen = s.someGapOpen := by
    unfold State.someGapOpen State.bay State.tableBays
    rw [h.bays, h.doors]
  have b : t.busy = s.busy := by
    unfold State.busy
    rw [h.doors]
  have v := h.served
  have e : s.settledPhase = t.berth.phase := hp.symm
  unfold State.settledPhase at e ⊢
  rw [v, g, b]
  revert e
  cases s.berth.phase <;> cases t.berth.phase <;> cases s.servedShut <;> cases s.someGapOpen <;>
    cases s.busy.isNone <;> simp

/-! ### The end of an unexpected movement -/

theorem AlarmState.clear_noActive (a : AlarmState) (k : AlarmKind) (b : Option Nat) :
    (a.clear fun e => decide (e.kind = k) && decide (e.bay = b)).entries.any (·.activeFor k b) = false := by
  unfold AlarmState.clear AlarmEntry.activeFor
  simp only [List.any_map, List.any_eq_false, Function.comp]
  intro e _
  by_cases h : e.active = true <;> by_cases h1 : e.kind = k <;> by_cases h2 : e.bay = b <;>
    simp_all

/-- No kind but UNEXPECTED_MOVEMENT is touched, and nothing but alarms and frames. -/
theorem State.settleMovement_ground (s : State) :
    SameGround s s.settleMovement ∧ s.settleMovement.berth = s.berth ∧
      s.settleMovement.setting = s.setting ∧ s.settleMovement.secure = s.secure := by
  unfold State.settleMovement
  split <;> exact ⟨⟨Or.inl rfl, rfl, rfl, fun _ => rfl, rfl, rfl, rfl⟩, rfl, rfl, rfl⟩

theorem State.settleMovement_over (s : State) : s.settleMovement.movementOver = false := by
  unfold State.settleMovement
  split
  · unfold State.movementOver State.hasActive
    have := AlarmState.clear_noActive s.alarms .unexpectedMovement none
    rw [Bool.and_eq_false_iff]
    exact Or.inl this
  · rename_i hn
    simpa using hn

theorem SameGround.movementOver {s t : State} (h : SameGround s t) (ha : t.alarms = s.alarms) :
    t.movementOver = s.movementOver := by
  unfold State.movementOver State.hasActive State.bayIs State.bay State.tableBays
  rw [h.bays, h.doors, ha]

/-! ### The secure state -/

theorem State.settleSecure_parts (s : State) :
    s.settleSecure.secure = s.secure.form s.judge s.lines s.now ∧ SameGround s s.settleSecure ∧
      s.settleSecure.berth = s.berth ∧ s.settleSecure.alarms = s.alarms ∧
      s.settleSecure.setting = s.setting := by
  unfold State.settleSecure
  dsimp only
  split <;> exact ⟨rfl, ⟨Or.inl rfl, rfl, rfl, fun _ => rfl, rfl, rfl, rfl⟩, rfl, rfl, rfl⟩

theorem disagreement_isSome (d r : Bool) (t : Option Millis) (n : Millis) :
    (disagreement d r t n).isSome = (d != r) := by
  unfold disagreement
  cases d <;> cases r <;> rfl

/-- The end of every command leaves a settled state. -/
theorem State.finish_settled (s : State) : s.finish.Settled := by
  obtain ⟨g1, b1, -, s1⟩ := s.settleMovement_ground
  have m1 := s.settleMovement_over
  unfold State.finish State.settlePhase
  generalize s.settleMovement = u at *
  have g2 : SameGround u (u.setPhase u.settledPhase) :=
    ⟨Or.inl (by simp), by simp, by simp, fun b => by simp [State.mapClass], by simp,
      by simp [State.noCause], by simp⟩
  have p2 : (u.setPhase u.settledPhase).settledPhase = (u.setPhase u.settledPhase).berth.phase :=
    State.settledPhase_idem g2 (by simp)
  have m2 : (u.setPhase u.settledPhase).movementOver = false :=
    (g2.movementOver (by simp)).trans m1
  generalize u.setPhase u.settledPhase = v at *
  obtain ⟨e, g3, b3, a3, t3⟩ := v.settleSecure_parts
  have l3 : v.settleSecure.lines = v.lines := congrArg Setting.lines t3
  exact {
    reasons := by rw [g3.judge, e]; rfl
    asserted := by rw [e]; rfl
    driveA := by rw [e]; rfl
    driveB := by rw [e]; rfl
    timerA := by rw [e, l3]; exact disagreement_isSome _ _ _ _
    timerB := by rw [e, l3]; exact disagreement_isSome _ _ _ _
    phase := by
      have p3 : v.settleSecure.berth.phase = v.berth.phase := congrArg BerthState.phase b3
      rw [g3.settledPhase p3, p3]
      exact p2
    movement := by rw [g3.movementOver a3]; exact m2 }

theorem disagreement_same {d r : Bool} {t : Option Millis} (n : Millis) (h : t.isSome = (d != r)) :
    disagreement d r t n = t := by
  unfold disagreement
  cases d <;> cases r <;> cases t <;> simp_all

/-- A settled state is left as it is. -/
theorem State.Settled.finish_eq {s : State} (h : s.Settled) : s.finish = s := by
  have e1 : s.settleMovement = s := by
    unfold State.settleMovement
    rw [h.movement]
    rfl
  have e2 : s.settlePhase = s := by
    unfold State.settlePhase
    rw [h.phase]
    exact s.setPhase_self
  have e3 : s.secure.form s.judge s.lines s.now = s.secure := by
    unfold SecureState.form
    rw [← h.reasons, ← h.asserted]
    have a := h.driveA
    have b := h.driveB
    have ta := disagreement_same s.now h.timerA
    have tb := disagreement_same s.now h.timerB
    rw [a] at ta
    rw [b] at tb
    rw [ta, tb, if_pos rfl]
    revert a b
    cases s.secure
    rintro ⟨⟩ ⟨⟩
    rfl
  unfold State.finish
  rw [e1, e2]
  unfold State.settleSecure
  dsimp only
  rw [e3, if_pos rfl]

/-- What has been sent does not bear on whether a state is settled. -/
theorem State.Settled.of_send {s : State} (h : s.Settled) (x : SendState) :
    State.Settled { s with send := x } := ⟨h.1, h.2, h.3, h.4, h.5, h.6, h.7, h.8⟩

end Sys2Proof.Machine
end

