-- ==== Sys2Proof/Laws/Requests.lean ====
section
/-!
SUPPORT. A request that passes the checks of R152: the state its owner decides, and its reply among the
frames sent.
-/
namespace Sys2Proof.Machine
open Sys2Proof

theorem State.taken_link (s : State) (p : Port) :
    (s.taken p).link.strap = s.link.strap ∧ (s.taken p).link.supervisor = s.link.supervisor := by
  unfold State.taken State.goodFrame State.trainFrame State.trainUp
  dsimp only
  split
  · split
    · exact ⟨rfl, rfl⟩
    · split <;> split <;> exact ⟨rfl, rfl⟩
  · exact ⟨rfl, rfl⟩

/-- A frame that is not on the Train Link is looked at in the state as it stands. -/
theorem State.taken_other (s : State) {p : Port} (h : p ≠ .train) : s.taken p = s.begin_ := by
  unfold State.taken State.goodFrame
  rw [if_neg h]

theorem State.taken_authority (s : State) (p q : Port) :
    (s.taken p).authorityOf q = s.authorityOf q := by
  unfold State.authorityOf
  rw [(s.taken_link p).2]

theorem State.taken_replyFrame (s : State) (r : Req) (k : Nat) (x : Result) (d : Detail) :
    (s.taken r.port).replyFrame r k x d = s.replyFrame r k x d := by
  unfold State.replyFrame State.frameAddr
  rw [(s.taken_link r.port).1]

/-- The turn sends notices after the frames already sent (R151). -/
theorem SendState.turn_sent (a : Nat) (n : Nat) (d : SendState) :
    ∃ fs, (d.turn a n).sent = d.sent ++ fs := by
  induction n generalizing d with
  | zero => exact ⟨[], by simp [SendState.turn]⟩
  | succ n ih =>
    unfold SendState.turn
    split
    · exact ⟨[], by simp⟩
    · rename_i x rest _
      obtain ⟨fs, h⟩ := ih (SendState.unsolicited .station a 0xF3 (.notice x d.lost)
        { d with outbox := rest, lost := 0 })
      exact ⟨⟨.station, a, 0xF3, d.station.number, .notice x d.lost⟩ :: fs, by
        rw [h]; simp [SendState.unsolicited, SendState.push, SendState.setPort, SendState.port]⟩

/-- What a frame that is for this part gives: the decision, what follows from it, and the reply. -/
theorem State.takeFrame_eq {s : State} {r : Req} (hp : s.powered = true)
    (ha : s.otherAddress r = false) (k : Nat) (d : State → Answer) :
    ∃ x : SendState, s.takeFrame r k d = { (d (s.taken r.port)).state.finish with send := x } ∧
      s.replyFrame r k (d (s.taken r.port)).result (d (s.taken r.port)).detail ∈ x.sent := by
  have e := s.taken_replyFrame r k (d (s.taken r.port)).result (d (s.taken r.port)).detail
  unfold State.takeFrame
  rw [hp, ha]
  simp only [Bool.not_true, Bool.false_eq_true, if_false]
  rw [show s.begin_.goodFrame r.port = s.taken r.port from rfl, e]
  generalize s.replyFrame r k (d (s.taken r.port)).result (d (s.taken r.port)).detail = f
  generalize (d (s.taken r.port)).state.finish = v
  have m : f ∈ (v.sendReply (s.taken r.port).send.sent.length f).send.sent := by simp [State.sendReply]
  generalize hw : v.sendReply (s.taken r.port).send.sent.length f = w at m
  unfold State.stationTurn
  split
  · obtain ⟨fs, h⟩ := SendState.turn_sent w.link.strap turnNotices w.send
    refine ⟨w.send.turn w.link.strap turnNotices, by rw [← hw]; rfl, ?_⟩
    rw [h]
    exact List.mem_append_left _ m
  · exact ⟨w.send, by rw [← hw]; rfl, m⟩

/-- A request that passes the checks of R152 is decided by its owner, in the state taken. -/
theorem State.Accepts.request_eq {s : State} {r : Req} {k : ReqKind} (h : s.Accepts r k)
    (o : State → Answer) :
    ∃ x : SendState, s.request_ r k o = { (o (s.taken r.port)).state.finish with send := x } ∧
      s.replyFrame r k.code (o (s.taken r.port)).result (o (s.taken r.port)).detail ∈ x.sent := by
  have e : State.decideRequest r k (r.len == k.length) o (s.taken r.port) = o (s.taken r.port) := by
    unfold State.decideRequest
    rw [h.length, s.taken_authority, h.authority]
    simp
  obtain ⟨x, h1, h2⟩ := State.takeFrame_eq h.powered h.address k.code
    (State.decideRequest r k (r.len == k.length) o)
  rw [e] at h1 h2
  exact ⟨x, h1, h2⟩

/-- A request no train may send is taken in the state as it stands. -/
theorem State.Accepts.taken_eq {s : State} {r : Req} {k : ReqKind} (h : s.Accepts r k)
    (ht : k.allows .train = false) : s.taken r.port = s.begin_ := by
  refine s.taken_other fun e => ?_
  have a := h.authority
  rw [e] at a
  unfold State.authorityOf at a
  rw [ht] at a
  cases a

/-- Every request but WRITE_PARAMETERS is a `request_` of its kind, for some owner. -/
theorem exec_request {i : Instr} {r : Req} {k : ReqKind} (h : requestOf i = some (r, k))
    (hk : k ≠ .writeParameters) : ∃ o : State → Answer, ∀ s, exec i s = .next (s.request_ r k o) := by
  cases i
  case heartbeat | appendApproach | withdrawApproach | resyncQueue | isolationConcurrence |
    statusRequest | identify | stopped | moving | openRequest | openStation | closeRequest |
    closeStation | statusRead | bayRead | alarmRead | queueRead | ackNext | purgeAlarms |
    confirmOpen | retryBay | closeBay | restoreBay | probeAlignment | clearUsage | setNoticeMask
    | confirmBerth | isolateBay | deisolateBay | rearm | enterCommissioning | writeGeometry |
    writeProfile | commit | exitCommissioning | commitAndExit | testBayStep | restart =>
    cases h
    exact ⟨_, fun _ => rfl⟩
  case writeParameters => cases h; exact absurd rfl hk
  case powerOn | powerLoss | loadSucceeded | loadFailed | commitWriteEnd | frameBad |
    frameNotRequest | frameOtherAddress | unknownRequestKind | beamChange | beamStop |
    departClear | occupiedClear | dwellExpiry | evacAsserted | evacReleased | keyChange |
    addrChange | readbackChange | outputFault | poll | nodeReply | nodeReplyMissed | openTimeout
    | closeTimeout | doorwayHoldExpiry | reopenHoldExpiry | discrepancyTimerExpiry |
    recoveryTimerExpiry | stepTimeLimitExpiry | presenceStuck | gapCheckPassed | gapCheckFailed
    | trackIntrusion | intrusionClear | sigWatchdogExpiry | trainLossExpiry | isolationExpired |
    noticeIntervalEnd => cases h

/-- Settled states, and what a powered part that satisfies the invariant is. -/
theorem State.Inv.settled_begin {s : State} (h : s.Inv) (hp : s.powered = true) : s.begin_.Settled :=
  (h.settled hp).of_send _

end Sys2Proof.Machine
end

