-- ==== Sys2Proof/Laws/Alarms.lean ====
section
/-!
SUPPORT. The Alarm List (chapter 11): which alarms are ACTIVE after a raise and after the end of a
condition, and the changes that leave a settled state settled.
-/
namespace Sys2Proof.Machine
open Sys2Proof

/-- An entry of a kind and bay is ACTIVE in the list. -/
def AlarmState.isActive (a : AlarmState) (k : AlarmKind) (b : Option Nat) : Bool :=
  a.entries.any (·.activeFor k b)

theorem AlarmEntry.activeFor_eq {e : AlarmEntry} {k : AlarmKind} {b : Option Nat} :
    e.activeFor k b = true ↔ e.active = true ∧ e.kind = k ∧ e.bay = b := by
  simp [AlarmEntry.activeFor, and_assoc]

/-- Removing an entry that is not ACTIVE leaves the ACTIVE ones. -/
theorem dropFirst_active {p : AlarmEntry → Bool} (hp : ∀ e, p e = true → e.active = false)
    (k : AlarmKind) (b : Option Nat) (es : List AlarmEntry) :
    (dropFirst p es).any (·.activeFor k b) = es.any (·.activeFor k b) := by
  induction es with
  | nil => rfl
  | cons e es ih =>
    unfold dropFirst
    split
    · rename_i h
      have : e.activeFor k b = false := by simp [AlarmEntry.activeFor, hp e h]
      simp [this]
    · simp [ih]

theorem makeRoom_active {es x : List AlarmEntry} (h : makeRoom es = some x) (k : AlarmKind)
    (b : Option Nat) : x.any (·.activeFor k b) = es.any (·.activeFor k b) := by
  unfold makeRoom at h
  split at h
  · cases h; rfl
  · split at h
    · cases h
      exact dropFirst_active (fun e he => by simp_all) k b es
    · split at h
      · cases h
        exact dropFirst_active (fun e he => by simp_all) k b es
      · cases h

/-- A raise leaves the ACTIVE alarms of another kind or bay as they are. -/
theorem AlarmState.raise_other (a : AlarmState) {k k' : AlarmKind} {b b' : Option Nat}
    (d : Option AlarmDetail) (n : Seconds) (h : k' ≠ k ∨ b' ≠ b) :
    (a.raise k b d n).1.isActive k' b' = a.isActive k' b' := by
  unfold AlarmState.raise AlarmState.isActive
  split
  · simp only [List.any_map]
    congr 1
    funext e
    simp only [Function.comp]
    split
    · rename_i hs
      have hs' : e.kind = k ∧ e.bay = b := by
        simp only [AlarmEntry.standsFor, Bool.and_eq_true, decide_eq_true_eq] at hs
        exact ⟨hs.1.2, hs.2⟩
      have h1 : e.activeFor k' b' = false := by
        rcases h with h | h <;> simp [AlarmEntry.activeFor, hs', Ne.symm h]
      have h2 : (e.update d).activeFor k' b' = false := by
        rcases h with h | h <;> simp [AlarmEntry.activeFor, AlarmEntry.update, hs', Ne.symm h]
      rw [h1, h2]
    · rfl
  · split
    · rename_i es he
      simp only [List.any_append, makeRoom_active he]
      rcases h with h | h <;> simp [AlarmEntry.activeFor, Ne.symm h]
    · rfl

/-- The end of a condition leaves the ACTIVE alarms it does not concern. -/
theorem AlarmState.clear_other (a : AlarmState) {p : AlarmEntry → Bool} {k : AlarmKind}
    {b : Option Nat} (h : ∀ e, e.kind = k → e.bay = b → p e = false) :
    (a.clear p).isActive k b = a.isActive k b := by
  unfold AlarmState.clear AlarmState.isActive
  simp only [List.any_map]
  congr 1
  funext e
  simp only [Function.comp]
  split
  · rename_i hs
    have : ¬(e.kind = k ∧ e.bay = b) := fun g => by simp [h e g.1 g.2] at hs
    rw [Bool.eq_iff_iff, AlarmEntry.activeFor_eq, AlarmEntry.activeFor_eq]
    simp_all
  · rfl

/-- The end of a condition leaves none of its alarms ACTIVE. -/
theorem AlarmState.clear_self (a : AlarmState) {p : AlarmEntry → Bool} {k : AlarmKind}
    {b : Option Nat} (h : ∀ e, e.kind = k → e.bay = b → p e = true) :
    (a.clear p).isActive k b = false := by
  unfold AlarmState.clear AlarmState.isActive
  rw [List.any_eq_false]
  intro x hx
  rw [AlarmEntry.activeFor_eq]
  rintro ⟨h1, h2, h3⟩
  obtain ⟨e, -, rfl⟩ := List.mem_map.1 hx
  split at h1
  · cases h1
  · rename_i hs
    rw [if_neg hs] at h2 h3
    simp [h1, h e h2 h3] at hs

/-- A condition raised with room in the list is ACTIVE (R165, R167). -/
theorem AlarmState.raise_self (a : AlarmState) {k : AlarmKind} (b : Option Nat)
    (d : Option AlarmDetail) (n : Seconds) (hk : k.isEvent = false)
    (hr : a.entries.length < alarmLimit) : (a.raise k b d n).1.isActive k b = true := by
  unfold AlarmState.raise AlarmState.isActive
  split
  · rename_i e he
    have hm := List.mem_of_find?_eq_some he
    have hs := List.find?_some he
    rw [List.any_eq_true]
    refine ⟨_, List.mem_map.2 ⟨e, hm, rfl⟩, ?_⟩
    rw [if_pos hs, AlarmEntry.activeFor_eq]
    simp only [AlarmEntry.standsFor, Bool.and_eq_true, decide_eq_true_eq] at hs
    simp [AlarmEntry.update, hs, hk]
  · unfold makeRoom
    rw [if_pos hr]
    simp [AlarmEntry.activeFor, hk]

theorem AlarmState.clear_length (a : AlarmState) (p : AlarmEntry → Bool) :
    (a.clear p).entries.length = a.entries.length := by simp [AlarmState.clear]

/-! ### Settled states -/

theorem State.movementOver_eq {s t : State} (g : SameGround s t)
    (h : t.alarms.isActive .unexpectedMovement none = s.alarms.isActive .unexpectedMovement none) :
    t.movementOver = s.movementOver := by
  unfold State.movementOver State.bayIs State.bay State.tableBays
  rw [g.bays, g.doors]
  unfold AlarmState.isActive at h
  unfold State.hasActive
  rw [h]

/-- A state that differs from a settled one in nothing the judgements read is settled. -/
theorem State.Settled.of_parts {s t : State} (h : s.Settled) (g : SameGround s t)
    (hp : t.berth.phase = s.berth.phase) (hs : t.secure = s.secure)
    (ha : t.lines.readbackA = s.lines.readbackA) (hb : t.lines.readbackB = s.lines.readbackB)
    (hm : t.alarms.isActive .unexpectedMovement none = s.alarms.isActive .unexpectedMovement none) :
    t.Settled where
  reasons := by rw [g.judge, hs]; exact h.reasons
  asserted := by rw [hs]; exact h.asserted
  driveA := by rw [hs]; exact h.driveA
  driveB := by rw [hs]; exact h.driveB
  timerA := by rw [hs, ha]; exact h.timerA
  timerB := by rw [hs, hb]; exact h.timerB
  phase := by rw [g.settledPhase hp, hp]; exact h.phase
  movement := by rw [State.movementOver_eq g hm]; exact h.movement

/-- A valid Train Link frame, or none, leaves a settled state settled. -/
theorem State.Settled.goodFrame {s : State} (h : s.Settled) (p : Port) : (s.goodFrame p).Settled := by
  have c : (s.alarms.clear fun e => decide (e.kind = .trainLinkLost) && decide (e.bay = none)).isActive
      .unexpectedMovement none = s.alarms.isActive .unexpectedMovement none :=
    AlarmState.clear_other _ (fun e he _ => by simp [he])
  unfold State.goodFrame State.trainFrame State.trainUp
  dsimp only
  split
  · split
    · exact h.of_parts ⟨Or.inl rfl, rfl, rfl, fun _ => rfl, rfl, rfl, rfl⟩ rfl rfl rfl rfl rfl
    · split <;> split <;>
        exact h.of_parts ⟨Or.inl rfl, rfl, rfl, fun _ => rfl, rfl, rfl, rfl⟩ rfl rfl rfl rfl c
  · exact h

end Sys2Proof.Machine
end

