-- ==== Sys2Proof/Laws/Content.lean ====
section
/-!
SUPPORT. The store holds 24 bay entries, 16 beams, 8 slots of 32 doors and 18 parameters (R4, R7, R8,
R11): the delivered content and a torn image do, and the three writes keep it, so that none misses the
item it names. Reading an image whose checksum agrees.
-/
namespace Sys2Proof.Machine
open Sys2Proof

/-- How many items each list of a content has, the door entries slot by slot. -/
def Content.sizes (w : Content) : List Nat :=
  w.bays.length :: w.beams.length :: w.params.length :: w.profiles.map (·.doors.length)

/-- What `Content.sizes` is of a store as R4, R7, R8 and R11 lay it out. -/
def storeSizes : List Nat := 24 :: 16 :: 18 :: List.replicate 8 32

theorem shaped_sizes (c : Content) : Content.sizes c.shaped = storeSizes := rfl

theorem torn_sizes (n : Nat) : Content.sizes (Config.tornStore n).1 = storeSizes := shaped_sizes _

theorem delivered_sizes : Content.sizes deliveredContent = storeSizes := by decide +kernel

/-- A change of one item by a function that keeps `g` keeps `g` of every item. -/
theorem map_changeAt {α β : Type} (g : α → β) (f : α → α) (h : ∀ x, g (f x) = g x) (i : Nat) (l : List α) :
    (changeAt i f l).map g = l.map g := by
  unfold changeAt
  induction l generalizing i with
  | nil => cases i <;> rfl
  | cons x l ih => cases i <;> simp [h, ih]

@[simp] theorem length_changeAt {α : Type} (i : Nat) (f : α → α) (l : List α) :
    (changeAt i f l).length = l.length := List.length_modify ..

theorem writeGeometry_sizes {f : GeometryFields} {w w' : Content} {clamped : Bool}
    (h : writeGeometry f w = some (w', clamped)) : Content.sizes w' = Content.sizes w := by
  unfold writeGeometry at h
  split at h <;> (try split at h) <;> (try split at h) <;> cases h <;> simp [Content.sizes]

theorem writeProfile_sizes {f : ProfileFields} {w w' : Content} {clamped : Bool}
    (h : writeProfile f w = some (w', clamped)) : Content.sizes w' = Content.sizes w := by
  unfold writeProfile at h
  split at h
  · cases h
  · split at h <;> cases h <;> simp only [Content.sizes] <;> congr 3 <;>
      exact map_changeAt _ _ (fun _ => by simp) _ _

theorem writeParameters_sizes {f : ParameterFields} {w w' : Content} {clamped : Bool}
    (h : writeParameters f w = some (w', clamped)) : Content.sizes w' = Content.sizes w := by
  unfold writeParameters at h
  split at h
  · cases h
  · dsimp only at h
    split at h <;> cases h
    simp [Content.sizes]

/-! ### Reading the image (R170) -/

/-- An image whose checksum agrees has the outcome of its structural checks. -/
theorem checkImage_checksumOf (c : Content) :
    checkImage c (checksumOf c) = (firstViolation c).map .violation := by
  simp [checkImage]

/-- What a power-on makes of a store whose checksum agrees. -/
theorem StoreState.atStartup_agreeing (c : Content) (n : Nat) (w f : Option Content) (x : CommitState)
    (d : Option StoreDetail) :
    StoreState.atStartup .power ⟨c, checksumOf c, n, w, x, f, d⟩ =
      ⟨c, checksumOf c, n, none, .idle, none, (firstViolation c).map .violation⟩ := by
  simp [StoreState.atStartup, checkImage_checksumOf]

theorem delivered_violation : (firstViolation deliveredContent).map StoreDetail.violation =
    some (.violation ⟨.bayCount, .geometry, none, none⟩) := by decide +kernel

/-- The store of the reset state is one that a power-on leaves as it is, without working out its
checksum. -/
theorem reset_store_atStartup : State.reset.store.atStartup .power = State.reset.store := by
  show StoreState.atStartup .power ⟨deliveredContent, checksumOf deliveredContent, _, _, _, _, _⟩ =
    ⟨deliveredContent, checksumOf deliveredContent, _, _, _, _, _⟩
  rw [StoreState.atStartup_agreeing, delivered_violation]

end Sys2Proof.Machine
end

