-- ==== Sys2Proof/Laws/PerInstr.lean ====
section
/-!
SUPPORT. Facts about every command as syntax, one lemma per constructor of `Instr`. Family Operands: the
head of a well-formed request fits the frame of R162, its kind code is one of R154, and its reply kind
is the request kind with 80h added, still one byte.
-/
namespace Sys2Proof.Laws.Operands
open Sys2Proof Sys2Proof.Machine

/-- A well-formed request has an address 0..31, a one-byte tag, a payload of at most 200 bytes, a kind of
01h..27h and a reply kind of 81h..A7h; a command that is no request has nothing to satisfy. -/
def Statement (i : Instr) : Prop :=
  i.wellFormed = true → ∀ r k, requestOf i = some (r, k) →
    r.addr < 32 ∧ r.tag < 256 ∧ r.len ≤ 200 ∧ isRequestKind k.code = true ∧
      isAnswerKind (k.code + 0x80) = true

/-- The codes of the kinds of R154 and of their replies. -/
theorem codes (k : ReqKind) : isRequestKind k.code = true ∧ isAnswerKind (k.code + 0x80) = true := by
  cases k <;> decide

/-- A request whose well-formedness includes that of its head. -/
theorem of_request {i : Instr} {r : Req} {k : ReqKind} (h : requestOf i = some (r, k))
    (hw : i.wellFormed = true → r.wellFormed = true) : Statement i := by
  intro w r' k' h'
  cases h.symm.trans h'
  have g := hw w
  simp only [Req.wellFormed, byteField, Bool.and_eq_true, decide_eq_true_eq] at g
  exact ⟨g.1.1, g.1.2, g.2, codes k⟩

/-- A command that is no request. -/
theorem of_none {i : Instr} (h : requestOf i = none) : Statement i := by
  intro _ _ _ h'
  cases h.symm.trans h'

/-- The head is the first of two operands of a request. -/
theorem head {a b : Bool} (h : (a && b) = true) : a = true := by
  cases a
  · cases h
  · rfl

theorem powerOn : Statement .powerOn := of_none rfl
theorem powerLoss : Statement .powerLoss := of_none rfl
theorem loadSucceeded : Statement .loadSucceeded := of_none rfl
theorem loadFailed : Statement .loadFailed := of_none rfl
theorem heartbeat (r : Req) : Statement (.heartbeat r) := of_request rfl id
theorem appendApproach (r : Req) (f : AppendFields) : Statement (.appendApproach r f) :=
  of_request rfl head
theorem withdrawApproach (r : Req) (seq : Nat) : Statement (.withdrawApproach r seq) :=
  of_request rfl head
theorem resyncQueue (r : Req) (expected : Option Nat) (clear : Coded Choice) : Statement (.resyncQueue r expected clear) :=
  of_request rfl head
theorem isolationConcurrence (r : Req) (bay : Nat) : Statement (.isolationConcurrence r bay) :=
  of_request rfl head
theorem statusRequest (r : Req) : Statement (.statusRequest r) := of_request rfl id
theorem identify (r : Req) (f : IdentifyFields) : Statement (.identify r f) := of_request rfl head
theorem stopped (r : Req) (offset : Option Mm) : Statement (.stopped r offset) := of_request rfl head
theorem moving (r : Req) : Statement (.moving r) := of_request rfl id
theorem openRequest (r : Req) : Statement (.openRequest r) := of_request rfl id
theorem openStation (r : Req) : Statement (.openStation r) := of_request rfl id
theorem closeRequest (r : Req) : Statement (.closeRequest r) := of_request rfl id
theorem closeStation (r : Req) : Statement (.closeStation r) := of_request rfl id
theorem statusRead (r : Req) : Statement (.statusRead r) := of_request rfl id
theorem bayRead (r : Req) (bay : Nat) : Statement (.bayRead r bay) := of_request rfl head
theorem alarmRead (r : Req) (position : Nat) : Statement (.alarmRead r position) := of_request rfl head
theorem queueRead (r : Req) : Statement (.queueRead r) := of_request rfl id
theorem ackNext (r : Req) : Statement (.ackNext r) := of_request rfl id
theorem purgeAlarms (r : Req) : Statement (.purgeAlarms r) := of_request rfl id
theorem confirmOpen (r : Req) : Statement (.confirmOpen r) := of_request rfl id
theorem retryBay (r : Req) (bay : Nat) : Statement (.retryBay r bay) := of_request rfl head
theorem closeBay (r : Req) (bay : Nat) : Statement (.closeBay r bay) := of_request rfl head
theorem restoreBay (r : Req) (bay : Nat) : Statement (.restoreBay r bay) := of_request rfl head
theorem probeAlignment (r : Req) (f : ProbeFields) : Statement (.probeAlignment r f) :=
  of_request rfl head
theorem clearUsage (r : Req) (bay : Option Nat) : Statement (.clearUsage r bay) := of_request rfl head
theorem setNoticeMask (r : Req) (port : Coded Port) (classes : Byte) : Statement (.setNoticeMask r port classes) :=
  of_request rfl id
theorem confirmBerth (r : Req) (profile : Nat) (orientation : Coded Orientation) : Statement (.confirmBerth r profile orientation) :=
  of_request rfl head
theorem isolateBay (r : Req) (bay : Nat) : Statement (.isolateBay r bay) := of_request rfl head
theorem deisolateBay (r : Req) (bay : Nat) : Statement (.deisolateBay r bay) := of_request rfl head
theorem rearm (r : Req) : Statement (.rearm r) := of_request rfl id
theorem enterCommissioning (r : Req) : Statement (.enterCommissioning r) := of_request rfl id
theorem writeGeometry (r : Req) (f : GeometryFields) : Statement (.writeGeometry r f) :=
  of_request rfl head
theorem writeProfile (r : Req) (f : ProfileFields) : Statement (.writeProfile r f) :=
  of_request rfl head
theorem writeParameters (r : Req) (f : ParameterFields) : Statement (.writeParameters r f) :=
  of_request rfl head
theorem commit (r : Req) : Statement (.commit r) := of_request rfl id
theorem exitCommissioning (r : Req) : Statement (.exitCommissioning r) := of_request rfl id
theorem commitAndExit (r : Req) : Statement (.commitAndExit r) := of_request rfl id
theorem commitWriteEnd : Statement .commitWriteEnd := of_none rfl
theorem testBayStep (r : Req) (bay : Nat) : Statement (.testBayStep r bay) := of_request rfl head
theorem restart (r : Req) : Statement (.restart r) := of_request rfl id
theorem frameBad (port : Port) : Statement (.frameBad port) := of_none rfl
theorem frameNotRequest (port : Port) (addr : Nat) (kind : Nat) : Statement (.frameNotRequest port addr kind) :=
  of_none rfl
theorem frameOtherAddress (addr : Nat) (kind : Nat) : Statement (.frameOtherAddress addr kind) :=
  of_none rfl
theorem unknownRequestKind (r : Req) (kind : Nat) : Statement (.unknownRequestKind r kind) :=
  of_none rfl
theorem beamChange (beam : Nat) (blocked : Bool) : Statement (.beamChange beam blocked) := of_none rfl
theorem beamStop : Statement .beamStop := of_none rfl
theorem departClear : Statement .departClear := of_none rfl
theorem occupiedClear : Statement .occupiedClear := of_none rfl
theorem dwellExpiry : Statement .dwellExpiry := of_none rfl
theorem evacAsserted : Statement .evacAsserted := of_none rfl
theorem evacReleased : Statement .evacReleased := of_none rfl
theorem keyChange (asserted : Bool) : Statement (.keyChange asserted) := of_none rfl
theorem addrChange (addr : Nat) : Statement (.addrChange addr) := of_none rfl
theorem readbackChange (channel : Channel) (energised : Bool) : Statement (.readbackChange channel energised) :=
  of_none rfl
theorem outputFault (channel : Channel) : Statement (.outputFault channel) := of_none rfl
theorem poll : Statement .poll := of_none rfl
theorem nodeReply (r : NodeReply) : Statement (.nodeReply r) := of_none rfl
theorem nodeReplyMissed : Statement .nodeReplyMissed := of_none rfl
theorem openTimeout (bay : Nat) : Statement (.openTimeout bay) := of_none rfl
theorem closeTimeout (bay : Nat) : Statement (.closeTimeout bay) := of_none rfl
theorem doorwayHoldExpiry (bay : Nat) : Statement (.doorwayHoldExpiry bay) := of_none rfl
theorem reopenHoldExpiry (bay : Nat) : Statement (.reopenHoldExpiry bay) := of_none rfl
theorem discrepancyTimerExpiry (bay : Nat) : Statement (.discrepancyTimerExpiry bay) := of_none rfl
theorem recoveryTimerExpiry (bay : Nat) : Statement (.recoveryTimerExpiry bay) := of_none rfl
theorem stepTimeLimitExpiry (bay : Nat) : Statement (.stepTimeLimitExpiry bay) := of_none rfl
theorem presenceStuck (bay : Nat) : Statement (.presenceStuck bay) := of_none rfl
theorem gapCheckPassed (bay : Nat) : Statement (.gapCheckPassed bay) := of_none rfl
theorem gapCheckFailed (bay : Nat) : Statement (.gapCheckFailed bay) := of_none rfl
theorem trackIntrusion (bay : Nat) : Statement (.trackIntrusion bay) := of_none rfl
theorem intrusionClear : Statement .intrusionClear := of_none rfl
theorem sigWatchdogExpiry : Statement .sigWatchdogExpiry := of_none rfl
theorem trainLossExpiry : Statement .trainLossExpiry := of_none rfl
theorem isolationExpired (bay : Nat) : Statement (.isolationExpired bay) := of_none rfl
theorem noticeIntervalEnd (port : Port) (cls : NoticeClass) : Statement (.noticeIntervalEnd port cls) :=
  of_none rfl

end Sys2Proof.Laws.Operands
end

