-- ==== Sys2Proof/Machine/Layouts.lean ====
section
/-!
DEFINITION. The bytes of notice details (R158), of reply details (R152) and of whole frames. R162 and R163
give the field types, the order of a named value's codes and the head of a NOTICE; where they leave the
place of a field, the width of a count or the code of an event open, the layout here is the model's
(DESIGN CHOICE, assumption 32). No step runs these.
-/
namespace Sys2Proof.Machine
open Sys2Proof

/-! ### Codes of named values, each in the order of the rule that lists them (R162) -/

/-- Alarm kinds, in the order of section 11.5. -/
def AlarmKind.code : AlarmKind → Nat
  | .queueGap => 0 | .unannouncedArrival => 1 | .identityMismatch => 2 | .beamIncoherent => 3
  | .offsetDisagree => 4 | .bayConflict => 5 | .noMatch => 6 | .obstructionHeld => 7
  | .unexpectedMovement => 8 | .provingDiscrepant => 9 | .nodeLost => 10 | .openTimeout => 11
  | .closeTimeout => 12 | .presenceStuck => 13 | .gapOccupied => 14 | .trackIntrusion => 15
  | .bayReleased => 16 | .evacuation => 17 | .sigLinkLost => 18 | .trainLinkLost => 19
  | .isolationExpired => 20 | .authorityRefused => 21 | .outputFault => 22 | .restart => 23
  | .storeFault => 24

/-- Isolation field and manner, in the order of R142. -/
def Isolation.code : Isolation → Nat
  | .notIsolated => 0 | .pending => 1 | .byContact => 2 | .byConcurrence => 3

/-- Commissioning steps, in the order of R94. -/
def Step.code : Step → Nat
  | .unlock => 0 | .opening => 1 | .closing => 2 | .locking => 3

/-- Step positions, in the order of section 5.5. -/
def StepPosition.code : StepPosition → Nat
  | .locked => 0 | .unlocked => 1 | .opened => 2 | .closed => 3

/-- Step results, in the order of section 5.5. -/
def StepResult.code : StepResult → Nat
  | .complete => 0 | .failed => 1

/-- Releasing contacts, in the order of R119. -/
def ReleaseContact.code : ReleaseContact → Nat
  | .rh => 0 | .pk => 1 | .both => 2

/-- Gap-check statuses, in the order of R96. -/
def GapStatus.code : GapStatus → Nat
  | .notRequired => 0 | .pending => 1 | .passed => 2 | .failed => 3

/-- Intrusion states, in the order of R96. -/
def Intrusion.code : Intrusion → Nat
  | .clear => 0 | .active => 1 | .frozen => 2

/-- Proving classes, in the order of R89, with UNKNOWN last. -/
def ProvingClass.code : ProvingClass → Nat
  | .provenLocked => 0 | .closedUnlocked => 1 | .notClosed => 2 | .lockDiscrepant => 3
  | .impossible => 4 | .unknown => 5

/-- Service kinds, in the order of R20. -/
def serviceCode : ServiceKind → Nat
  | .stopping => 0 | .passing => 1 | .emptyStock => 2

/-- Ports, in the order of R159. -/
def portCode : Port → Nat
  | .signalling => 0 | .train => 1 | .station => 2

/-- Channels of the secure circuit. -/
def channelCode : Channel → Nat
  | .a => 0 | .b => 1

/-- Motion events, in the order of R86. -/
def motionCode : MotionEvent → Nat
  | .noEvent => 0 | .reachedOpen => 1 | .obstructedOpening => 2 | .obstructedClosing => 3

/-- Check codes, in the order of R15, R16 and R17. -/
def checkCode : CheckCode → Nat
  | .bayCount => 0 | .bayCentre => 1 | .bayWidth => 2 | .bayGapClass => 3 | .bayDisposition => 4
  | .bayOrder => 5 | .beamPosition => 6 | .beamSpacing => 7 | .profileDoorCount => 8
  | .profileLength => 9 | .profileMinClear => 10 | .doorWidth => 11 | .doorOrder => 12
  | .doorExtent => 13 | .doorSeparation => 14 | .minClearWidth => 15 | .parameterRange => 16

/-- Records of a violation report, in the order of R14. -/
def checkRecordCode : CheckRecord → Nat
  | .geometry => 0 | .profile => 1 | .parameters => 2

/-! ### Fields -/

/-- Platform seconds, four bytes: the low four of the count, which itself has no bound (R1, R162; DESIGN
CHOICE, assumption 69). -/
def secondsBytes (t : Seconds) : List Byte := bytesOf 4 t

/-- A train id, two bytes. -/
def trainBytes (t : Nat) : List Byte := bytesOf 2 t

/-- An optional one-byte field. -/
def optionByte (x : Option Nat) : List Byte := optionBytes 1 (x.map oneByte)

/-- A value of two names: 00h the name its rule lists first, 01h the other (R162). -/
def namedByte (first : Bool) : List Byte := oneByte (if first then 0 else 1)

/-- Yes or no, in the order R25, R26 and R164 list them: yes 00h, no 01h (R162). -/
def yesByte (yes : Bool) : List Byte := namedByte yes

/-- A duration in whole seconds, one byte (R162), 255 standing for all that is longer (DESIGN CHOICE,
assumption 63). -/
def durationByte (t : Seconds) : List Byte := oneByte (min t 255)

/-- An optional field of no fixed length: the presence byte, and the field where it is present. An
optional field of a fixed length is `optionBytes` (R162). -/
def optionOf {α : Type} (f : α → List Byte) : Option α → List Byte
  | none => [0#8]
  | some x => 1#8 :: f x

/-- A list: its count, then its items (R162). -/
def listBytes {α : Type} (f : α → List Byte) (xs : List α) : List Byte :=
  oneByte xs.length ++ xs.flatMap f

/-- The bays of a list that satisfy `p`, as a bay set. -/
def setOf {α : Type} (bay : α → Nat) (p : α → Bool) (xs : List α) : List Byte :=
  baySetBytes ((xs.filter p).map bay)

/-- A state and its qualifier. -/
def BayState.bytes (x : BayState) : List Byte := [natByte x.codes.1, natByte x.codes.2]

/-- The state of a bay, absent until a load has set it. -/
def stateBytes (x : Option BayState) : List Byte := optionBytes 2 (x.map BayState.bytes)

/-- A cause set: the EVACUATION flag and the set of released bays. -/
def CauseSet.bytes (x : CauseSet) : List Byte := flagByte x.evacuation ++ baySetBytes x.bays

/-- An operation record, in the order of R64: status 00h BUSY, 01h DONE, 02h ABORTED, and the bays that have
an outcome, each with 00h REACHED to 03h DROPPED. -/
def Operation.bytes (o : Operation) : List Byte :=
  oneByte o.kind.code ++ oneByte o.origin.code ++ baySetBytes o.targets ++ oneByte o.status.code ++
    optionByte (o.abort.map AbortReason.code) ++
    listBytes (fun x => [natByte x.1, natByte x.2.code]) o.outcomes ++ secondsBytes o.start ++
    optionBytes 4 (o.finish.map secondsBytes)

/-- A violation report, in the order of R14. -/
def violationBytes (v : Violation) : List Byte :=
  oneByte (checkCode v.code) ++ oneByte (checkRecordCode v.record) ++ optionByte v.slot ++ optionByte v.entry

/-- The detail of STORE_FAULT in the alarm: 00h CHECKSUM, or 01h and the violation report (R170; the byte
before the report is a DESIGN CHOICE, assumption 32). -/
def storeBytes : StoreDetail → List Byte
  | .checksum => [0#8]
  | .violation v => 1#8 :: violationBytes v

/-! ### Notices (R158) -/

/-- The fields of an alarm detail, in the order its raising rule names them. PROVING_DISCREPANT carries
its reason first: 00h persistence, 01h UNEXPECTED_OPEN, 02h ISOLATION_LIMIT. IDENTITY_MISMATCH carries
two profiles (R31): the record it is raised against holds one. -/
def AlarmDetail.bytes : AlarmDetail → List Byte
  | .sequence expected received => [natByte expected, natByte received]
  | .profiles announced identified => oneByte (announced.getD 0) ++ oneByte identified
  | .beams pattern => bytesOf 2 pattern.toNat
  | .disagreement t lo hi => mmBytes t ++ mmBytes lo ++ mmBytes hi
  | .doors ks => listBytes oneByte ks
  | .noMatch p o d => oneByte p ++ oneByte (orientationCode o) ++ mmBytes d
  | .code c => [0#8, natByte c]
  | .unexpectedOpen c => [1#8, natByte c]
  | .beyondLimit => [2#8, 0#8]
  | .bay b => oneByte b
  | .contact c => oneByte c.code
  | .bayState x => x.bytes
  | .refused p k => [natByte (portCode p), natByte k.code]
  | .channel c drive readback => oneByte (channelCode c) ++ namedByte drive ++ namedByte readback
  | .store d => storeBytes d

/-- ACTIVE or CLEARED, in the order of R164. -/
def activeByte (active : Bool) : List Byte := namedByte active

/-- The event of an EMERGENCY notice: 00h a cause joined, 01h a cause left, with its bay or none for
EVACUATION; 02h the entry to EMERGENCY. The return is 03h. -/
def EmergencyEvent.bytes : EmergencyEvent → List Byte
  | .joinedBay b => 0#8 :: optionByte (some b)
  | .joinedEvacuation => 0#8 :: optionByte none
  | .leftBay b => 1#8 :: optionByte (some b)
  | .leftEvacuation => 1#8 :: optionByte none
  | .entered => 2#8 :: optionByte none
  | .returned => 3#8 :: optionByte none

/-- The counts of outcomes, in the order of R65, after the other fields of an OPERATION_CHANGE; the status
is coded as in an operation record (R64). -/
def OpSummary.bytes (x : OpSummary) : List Byte :=
  oneByte x.kind.code ++ oneByte x.origin.code ++ oneByte x.status.code ++
    optionByte (x.abort.map AbortReason.code) ++
    [natByte x.reached, natByte x.held, natByte x.fault, natByte x.dropped]

/-- The detail of a notice, its fields in the order of R158. The events of class OPERATION are 00h
OPERATION_CHANGE, 01h ISOLATED, 02h STEP_END and 03h COMMIT_END (R175), the write count in two bytes.
The secure state is 00h ASSERTED and 01h WITHHELD, as R111 lists them, and OVERFLOW is 00h set and
01h clear, as R164 does. -/
def NoticeDetail.bytes : NoticeDetail → List Byte
  | .secure asserted reasons changed =>
    namedByte asserted ++ oneByte reasons.byte ++ secondsBytes changed
  | .phase p => oneByte p.code
  | .operationChange x => 0#8 :: x.bytes
  | .isolated b manner => [1#8, natByte b, natByte manner.code]
  | .stepEnd b x result => [2#8, natByte b, natByte x.code, natByte result.code]
  | .commitEnd result n => 3#8 :: oneByte result.code ++ bytesOf 2 n
  | .alarm k bay detail count active unacknowledged overflow =>
    oneByte k.code ++ optionByte bay ++ optionOf AlarmDetail.bytes detail ++ oneByte count ++
      activeByte active ++ oneByte unacknowledged ++ namedByte overflow
  | .emergency event causes m => event.bytes ++ causes.bytes ++ oneByte m.code
  | .emergencyReturn causes m saved operation p =>
    EmergencyEvent.bytes .returned ++ causes.bytes ++ oneByte m.code ++
      optionByte (saved.map Phase.code) ++ optionOf Operation.bytes operation ++ oneByte p.code
  | .dwell t => optionBytes 2 (t.map trainBytes)
  | .gap cause failed =>
    oneByte cause ++ listBytes (fun x => natByte x.1 :: optionByte x.2) failed

/-! ### Reply details (R152) -/

/-- An alarm entry, in the order of R164: Acknowledged is Yes 00h or no 01h (R162). -/
def AlarmEntry.bytes (e : AlarmEntry) : List Byte :=
  oneByte e.kind.code ++ optionByte e.bay ++ optionOf AlarmDetail.bytes e.detail ++
    secondsBytes e.raised ++ oneByte e.count ++ activeByte e.active ++ yesByte e.acked

/-- What ALARM_READ returns, in the order of R168; OVERFLOW is set 00h or clear 01h (R164). -/
def AlarmView.bytes (v : AlarmView) : List Byte :=
  oneByte v.length ++ oneByte v.unacknowledged ++ namedByte v.overflow ++
    listBytes AlarmEntry.bytes v.entries

/-- An approach record, in the order of R20. -/
def Approach.bytes (a : Approach) : List Byte :=
  oneByte a.seq ++ trainBytes a.trainId ++ oneByte a.profile ++ oneByte (orientationCode a.orientation) ++
    oneByte (serviceCode a.service) ++ optionByte a.dwell

/-- What QUEUE_READ returns, in the order of R21. -/
def QueueView.bytes (v : QueueView) : List Byte :=
  listBytes Approach.bytes v.queue ++ optionByte v.expected ++ flagByte v.syncLost ++
    optionByte v.lastBound ++ bytesOf 1 v.policy

/-- The class of a bay, in the order of R55 with UNAVAILABLE last, and what it records. -/
def BayClass.bytes : BayClass → List Byte
  | .served k w => [0#8, natByte k] ++ mmBytes w
  | .conflict ks => 1#8 :: listBytes oneByte ks
  | .partialFit => [2#8]
  | .idle => [3#8]
  | .unavailable => [4#8]

/-- What a probe returns, in the order of R60. -/
def ProbeView.bytes (v : ProbeView) : List Byte :=
  oneByte v.outcome.code ++ optionBytes 3 (v.reposition.map mmBytes) ++
    listBytes BayClass.bytes v.map ++ listBytes oneByte v.inhibit

/-- A node reply, in the order of R86, with its time: 17 bytes. LC, RC, LK1, LK2 and the event number are
the numbers 0 and 1; active, or occupied, is listed before the other reading. -/
def replyBytes (x : NodeReply × Seconds) : List Byte :=
  oneByte x.1.bay ++ flagByte x.1.lc ++ flagByte x.1.rc ++ flagByte x.1.lk1 ++ flagByte x.1.lk2 ++
    namedByte x.1.iso ++ namedByte x.1.rh ++ namedByte x.1.pk ++ oneByte x.1.leaf ++
    oneByte (motionCode x.1.event) ++ flagByte x.1.eventNo ++ namedByte x.1.presence ++
    namedByte x.1.gap ++ secondsBytes x.2

/-- What BAY_READ returns: the record of R61, the items of R87, the step, and the items of R96. Node
health is LIVE or LOST, the readings are active or clear and occupied or clear, and the flags of R61 and
R96 are set or clear, in these orders. -/
def BayView.bytes (v : BayView) : List Byte :=
  oneByte v.number ++ stateBytes v.state ++ optionOf BayClass.bytes v.cls ++ oneByte v.retry ++
    oneByte v.isolation.code ++ namedByte v.evacOpened ++ namedByte v.cycled ++ namedByte v.obstructed ++
    namedByte (!v.lost) ++ oneByte v.missed ++ optionBytes 17 (v.lastReply.map replyBytes) ++
    optionByte v.code ++
    oneByte v.proving.code ++ flagByte v.discrepancyRuns ++ flagByte v.recoveryRuns ++
    optionByte (v.position.map StepPosition.code) ++ optionByte (v.step.map Step.code) ++
    optionByte (v.stepResult.map StepResult.code) ++ namedByte v.presence ++
    secondsBytes v.presenceSince ++ durationByte v.presenceFor ++ namedByte v.stuck ++
    namedByte v.zone ++ secondsBytes v.zoneSince ++ durationByte v.zoneFor ++ oneByte v.gap.code ++
    optionBytes 4 (v.gapStarted.map secondsBytes)

/-- What an alignment used (R43): 10 bytes. -/
def AlignUsed.bytes (u : AlignUsed) : List Byte :=
  bytesOf 2 u.pattern.toNat ++ oneByte u.m ++
    optionBytes 6 (u.interval.map fun x => mmBytes x.1 ++ mmBytes x.2)

/-- The alignment result of a berth record, in the order of R26, with what it used (R43). -/
def AlignResult.bytes (a : AlignResult) : List Byte :=
  optionBytes 4 (a.d.map fun x => mmBytes x.1 ++ oneByte x.2.code) ++ oneByte a.outcome.code ++
    listBytes oneByte a.inhibit ++ optionBytes 3 (a.reposition.map mmBytes) ++
    optionBytes 10 (a.used.map AlignUsed.bytes)

/-- A berth record, in the order of R26; its bay map is read with the bays. -/
def BerthView.bytes (r : BerthView) : List Byte :=
  optionBytes 2 (r.trainId.map trainBytes) ++ optionBytes 2 (r.identifiedId.map trainBytes) ++
    optionByte r.profile ++ optionByte (r.orientation.map orientationCode) ++
    optionByte (r.service.map serviceCode) ++ optionByte r.approachSeq ++ yesByte r.announced ++
    yesByte r.identified ++ yesByte r.confirmed ++ yesByte r.disputed ++ r.align.bytes ++
    oneByte r.permit.code ++ optionByte r.dwell ++ optionBytes 4 (r.openComplete.map secondsBytes) ++
    baySetBytes r.opened

/-- The last berth summary, in the order of R40: 11 bytes. -/
def Summary.bytes (x : Summary) : List Byte :=
  optionBytes 2 (x.trainId.map trainBytes) ++ optionByte x.approachSeq ++
    optionBytes 3 (x.d.map mmBytes) ++ oneByte x.outcome.code ++ oneByte x.baysOpened

/-- The Secure Evaluator, in the order of R111: ASSERTED and ENERGISED 00h, WITHHELD and DE_ENERGISED 01h, a
latch clear 00h, set 01h. -/
def SecureView.bytes (x : SecureView) : List Byte :=
  namedByte x.asserted ++ oneByte x.reasons.byte ++ secondsBytes x.changed ++ namedByte x.driveA ++
    namedByte x.driveB ++ namedByte x.readbackA ++ namedByte x.readbackB ++
    optionBytes 4 (x.timerA.map secondsBytes) ++ optionBytes 4 (x.timerB.map secondsBytes) ++
    flagByte x.latchA ++ flagByte x.latchB

/-- A suspended context, in the order of R127. -/
def Context.bytes (c : Context) : List Byte :=
  oneByte c.savedMode.code ++ oneByte c.savedPhase.code ++ optionOf Operation.bytes c.operation ++
    baySetBytes c.lockedAtEntry ++ secondsBytes c.entry

/-- The bays in STATUS_READ: state, map class and gap check of each, then the sets of bays CYCLED and
OBSTRUCTED, of those that have given a reply, and of those whose RH and PK were last reported active. -/
def summaryBytes (bays : List BaySummary) : List Byte :=
  listBytes (fun x => stateBytes x.state ++ optionOf BayClass.bytes x.cls ++ oneByte x.gap.code)
      bays ++
    setOf (·.bay) (·.cycled) bays ++ setOf (·.bay) (·.obstructed) bays ++
    setOf (·.bay) (·.rh.isSome) bays ++ setOf (·.bay) (·.rh == some true) bays ++
    setOf (·.bay) (·.pk == some true) bays

/-- What STATUS_READ returns, in the order of `StatusView`: the watchdog RUNNING or EXPIRED (R135), the
Train Link UP or DOWN (R139) and the commit state IDLE or WRITING (R169) in these orders. -/
def StatusView.bytes (v : StatusView) : List Byte :=
  oneByte v.mode.code ++ oneByte v.phase.code ++ optionOf BerthView.bytes v.berth ++
    optionBytes 11 (v.summary.map Summary.bytes) ++ optionBytes 3 (v.heldOffset.map mmBytes) ++
    bytesOf 2 v.pattern.toNat ++ optionOf Operation.bytes v.operation ++ summaryBytes v.bays ++
    oneByte v.intrusion.code ++ optionByte v.intrusionBay ++ v.secure.bytes ++ v.causes.bytes ++
    listBytes (fun x => [natByte x.1, natByte x.2.code]) v.released ++
    optionOf Context.bytes v.context ++ namedByte v.watchdogRunning ++ namedByte v.trainUp ++
    optionBytes 1 (v.sinceTrainFrame.map durationByte) ++
    listBytes (fun x => oneByte x.1 ++ secondsBytes x.2.1 ++ durationByte x.2.2) v.requests ++
    listBytes (fun x => [natByte x.1, natByte x.2.code]) v.isolated ++ oneByte v.outboxLength ++
    oneByte v.lost ++ namedByte v.overflow ++ bytesOf 2 v.writeCount ++ namedByte (!v.writing) ++
    flagByte v.hasWorking

/-- The detail of a reply (R152). Of VALIDATION the violation report follows the result code (R14, R18,
R155), with no byte before it; that the CHECKSUM of a PROBE_ALIGNMENT in CONFIG_FAULT (R13) is the one byte 00h
is the model's choice (DESIGN CHOICE, assumption 71). -/
def Detail.bytes : Detail → List Byte
  | .empty => []
  | .platformStatus p => p.bytes
  | .status v => v.bytes
  | .bay v => v.bytes
  | .alarms v => v.bytes
  | .queue v => v.bytes
  | .entry e => e.bytes
  | .purged n => oneByte n
  | .probe v => v.bytes
  | .store .checksum => [0#8]
  | .store (.violation v) => violationBytes v

/-! ### Payloads and frames (R152, R162, R163) -/

/-- The payload of a frame the part sends. -/
def Body.bytes : Body → List Byte
  | .reply x d => oneByte x.code ++ d.bytes
  | .platformStatus p => p.bytes
  | .berthReport r => r.bytes
  | .doorReport r => r.bytes
  | .notice n lost =>
    oneByte (noticeClassCode n.cls) ++ oneByte n.fold ++ oneByte lost ++ n.detail.bytes

/-- The bytes of a frame the part sends. A payload of more than 200 bytes, which a STATUS_READ of many
bays may reach, has no frame in R150 (assumption 32). -/
def Frame.bytes (f : Frame) : Option (List Byte) :=
  if f.body.bytes.length ≤ payloadLimit then some (frameBytes f.addr f.kind f.tag f.body.bytes)
  else none

end Sys2Proof.Machine
end

