-- ==== Sys2Proof/Tests/Slice0.lean ====
section
/-!
SUPPORT. Tests on fixed values: the operands WellFormed refuses, the worked figures of the manual, the
state after reset, and for each statement of Certificates/Slice0/Obligations.lean with hypotheses a state
and operands that meet them all.
-/
namespace Sys2Proof.Tests
open Sys2Proof Sys2Proof.Machine

/- One theorem after another: kernel evaluations that wait for each other would each hold a thread. -/
set_option Elab.async false

/-! ### WellFormed refuses what no link, line or node presents -/

def okReq : Req := ⟨.station, 0, 7, 0⟩

theorem test_ill_formed_head :
    (Instr.heartbeat ⟨.station, 32, 7, 0⟩).wellFormed = false ∧
    (Instr.heartbeat ⟨.station, 0, 256, 0⟩).wellFormed = false ∧
    (Instr.heartbeat ⟨.station, 0, 7, 201⟩).wellFormed = false ∧
    (Instr.heartbeat ⟨.station, 31, 255, 200⟩).wellFormed = true := by decide

theorem test_ill_formed_append :
    (Instr.appendApproach okReq ⟨256, 0, 0, .outside, .outside, none⟩).wellFormed = false ∧
    (Instr.appendApproach okReq ⟨0, 65536, 0, .outside, .outside, none⟩).wellFormed = false ∧
    (Instr.appendApproach okReq ⟨0, 0, 256, .outside, .outside, none⟩).wellFormed = false ∧
    (Instr.appendApproach okReq ⟨0, 0, 0, .outside, .outside, some 256⟩).wellFormed = false ∧
    (Instr.resyncQueue okReq (some 256) .outside).wellFormed = false := by decide

theorem test_ill_formed_fields :
    (Instr.identify okReq ⟨65536, 0, .outside⟩).wellFormed = false ∧
    (Instr.identify okReq ⟨0, 256, .outside⟩).wellFormed = false ∧
    (Instr.stopped okReq (some 8388608)).wellFormed = false ∧
    (Instr.stopped okReq (some (-8388609))).wellFormed = false ∧
    (Instr.probeAlignment okReq ⟨256, .outside, 0⟩).wellFormed = false ∧
    (Instr.probeAlignment okReq ⟨0, .outside, 8388608⟩).wellFormed = false ∧
    (Instr.withdrawApproach okReq 256).wellFormed = false ∧
    (Instr.bayRead okReq 256).wellFormed = false ∧ (Instr.alarmRead okReq 256).wellFormed = false ∧
    (Instr.clearUsage okReq (some 256)).wellFormed = false ∧
    (Instr.confirmBerth okReq 256 .outside).wellFormed = false := by decide

theorem test_ill_formed_writes :
    (Instr.writeGeometry okReq ⟨.outside, 256, 0, 0, 0, .outside⟩).wellFormed = false ∧
    (Instr.writeGeometry okReq ⟨.outside, 0, 8388608, 0, 0, .outside⟩).wellFormed = false ∧
    (Instr.writeGeometry okReq ⟨.outside, 0, 0, 8388608, 0, .outside⟩).wellFormed = false ∧
    (Instr.writeGeometry okReq ⟨.outside, 0, 0, 0, 256, .outside⟩).wellFormed = false ∧
    (Instr.writeProfile okReq ⟨256, 0, 0, 0, 0⟩).wellFormed = false ∧
    (Instr.writeProfile okReq ⟨0, 256, 0, 0, 0⟩).wellFormed = false ∧
    (Instr.writeProfile okReq ⟨0, 0, 8388608, 0, 0⟩).wellFormed = false ∧
    (Instr.writeProfile okReq ⟨0, 0, 0, 8388608, 0⟩).wellFormed = false ∧
    (Instr.writeProfile okReq ⟨0, 0, 0, 0, 8388608⟩).wellFormed = false ∧
    (Instr.writeParameters okReq ⟨256, 0⟩).wellFormed = false ∧
    (Instr.writeParameters okReq ⟨0, 8388608⟩).wellFormed = false := by decide

def okReply : NodeReply :=
  ⟨1, true, true, true, true, false, false, false, 0, .noEvent, false, false, false⟩

theorem test_ill_formed_events :
    (Instr.nodeReply { okReply with bay := 0 }).wellFormed = false ∧
    (Instr.nodeReply { okReply with bay := 25 }).wellFormed = false ∧
    (Instr.nodeReply { okReply with leaf := 101 }).wellFormed = false ∧
    (Instr.beamChange 16 true).wellFormed = false ∧ (Instr.addrChange 32).wellFormed = false ∧
    (Instr.openTimeout 0).wellFormed = false ∧ (Instr.trackIntrusion 25).wellFormed = false ∧
    (Instr.noticeIntervalEnd .train .secure).wellFormed = false := by decide

theorem test_ill_formed_frames :
    (Instr.frameNotRequest .train 32 0x81).wellFormed = false ∧
    (Instr.frameNotRequest .train 0 0xA8).wellFormed = false ∧
    (Instr.frameOtherAddress 32 1).wellFormed = false ∧
    (Instr.frameOtherAddress 1 256).wellFormed = false ∧
    (Instr.unknownRequestKind okReq 0x27).wellFormed = false ∧
    (Instr.unknownRequestKind okReq 0x81).wellFormed = false ∧
    (Instr.unknownRequestKind okReq 256).wellFormed = false ∧
    (Instr.unknownRequestKind okReq 0x28).wellFormed = true := by decide

/-- The opcode table gives its rows no bits. -/
theorem test_decode_none : decodeTableWord 8 1 = none ∧ decodeTableWord 0 0 = none := by decide

/-! ### The interchange platform of section 3.7 -/

/-- The platform of section 3.7, its train in slot 2, its other slots empty. -/
def content : Content :=
  { deliveredContent with
    count := 5
    bays := [⟨-3100, 1900, 1, 0⟩, ⟨-9800, 1900, 1, 1⟩, ⟨-16100, 1900, 1, 0⟩, ⟨-22600, 1900, 1, 1⟩,
      ⟨-29500, 1900, 1, 0⟩] ++ List.replicate 19 ⟨0, 1200, 0, 0⟩
    profiles := [⟨0, 0, 0, []⟩, ⟨0, 0, 0, []⟩,
      ⟨4, 38000, 1100, [⟨3200, 1400⟩, ⟨9800, 1400⟩, ⟨22600, 1400⟩, ⟨29200, 1400⟩]⟩] }

/-- Section 3.7.1: the fused stop. -/
theorem test_fused_stop :
    (alignment content [1, 2, 3, 4, 5] 2 .forward 0x01FF#16 (some 112)).d = some (112, .fused) ∧
    (alignment content [1, 2, 3, 4, 5] 2 .forward 0x01FF#16 (some 112)).map =
      some [.served 1 1400, .served 2 1400, .idle, .served 3 1400, .served 4 1238] ∧
    (alignment content [1, 2, 3, 4, 5] 2 .forward 0x01FF#16 (some 112)).inhibit = [] := by
  decide +kernel

/-- Section 3.7.1: the limits of fusion. -/
theorem test_fusion_limits :
    fuse content 0x01FF#16 (some 160) = ⟨some (149, .fused), none⟩ ∧
    fuse content 0x01FF#16 (some 300) = ⟨some (100, .beams), some (300, 50, 150)⟩ ∧
    fuse content 0x01FF#16 (some (-80)) = ⟨some (100, .beams), some (-80, 50, 150)⟩ := by decide +kernel

/-- Section 3.7.3: the beam stop outside the window, and bay 5's overlap at 190. -/
theorem test_beam_stop_figures :
    (alignment content [1, 2, 3, 4, 5] 2 .forward 0x0FFF#16 none).reposition = some (-400) ∧
    (alignment content [1, 2, 3, 4, 5] 2 .forward 0x03FF#16 (some 190)).map.bind (·[4]?) =
      some (.served 4 1160) := by decide +kernel

/-- Section 3.7.4: an over-run, and a fouled beam. -/
theorem test_overrun_and_fouled :
    fuse content 0xFFFF#16 (some 1300) = ⟨some (1300, .trainOnly), none⟩ ∧
    (fuse content 0xFFFF#16 (some 600)).d = none ∧ coherent 0x09FF#16 = false ∧
    fuse content 0x09FF#16 (some 112) = ⟨some (112, .trainOnly), none⟩ := by decide +kernel

/-- Section 3.7.5: without bay 4 door 3 is inhibited. -/
theorem test_bay_lost :
    (alignment content [1, 2, 3, 5] 2 .forward 0x01FF#16 (some 112)).map =
      some [.served 1 1400, .served 2 1400, .idle, .unavailable, .served 4 1238] ∧
    (alignment content [1, 2, 3, 5] 2 .forward 0x01FF#16 (some 112)).inhibit = [3] := by decide +kernel

/-- R3: the span of width 1,401. -/
theorem test_odd_span : spanOf (-3000) 1401 = (-3700, -2299) := by decide

/-- The interchange platform passes its checks; the store as delivered fails the first (R19). -/
theorem test_checks : firstViolation content = none ∧
    firstViolation deliveredContent = some ⟨.bayCount, .geometry, none, none⟩ := by decide +kernel

/-! ### Bytes (R150, R162, R163) -/

/-- The check of the nine bytes 31h..39h is 29B1h (R150). -/
theorem test_crc : crc16 [0x31#8, 0x32#8, 0x33#8, 0x34#8, 0x35#8, 0x36#8, 0x37#8, 0x38#8, 0x39#8] =
    0x29B1#16 := by decide +kernel

/-- PLATFORM_STATUS has 19 bytes; request kinds run from 01h to 27h (R162, R163). -/
theorem test_codes : startupStatus.bytes.length = 19 ∧ ReqKind.heartbeat.code = 0x01 ∧
    ReqKind.restart.code = 0x27 ∧ Result.wearLimit.code = 21 := by decide

/-- A millimetre field is three bytes in two's complement (R162). -/
theorem test_mm_bytes : mmBytes (-1) = [0xFF#8, 0xFF#8, 0xFF#8] ∧ mmBytes 400 = [0#8, 0x01#8, 0x90#8] ∧
    mmOfBytes [0xFF#8, 0xFE#8, 0x70#8] = -400 := by decide

/-- A good HEARTBEAT frame is the command, a byte 6 ms late makes the frame bad (R150). -/
theorem test_receiver :
    commandsOf .signalling 0 .outside ((frameBytes 0 1 7 []).zip [0, 5, 10, 15, 20, 25, 30]) =
      [.heartbeat ⟨.signalling, 0, 7, 0⟩] ∧
    commandsOf .signalling 0 .outside ((frameBytes 0 1 7 []).zip [0, 5, 11, 15, 20, 25, 30]) =
      [.frameBad .signalling] := by decide +kernel

/-! ### Proving (R89) -/

/-- The class of each code, one row of R89 each. -/
theorem test_classes :
    okReply.cls = .provenLocked ∧ { okReply with lk1 := false, lk2 := false }.cls = .closedUnlocked ∧
    { okReply with lk1 := false }.cls = .lockDiscrepant ∧ { okReply with lc := false }.cls = .impossible ∧
    { okReply with lc := false, lk1 := false, lk2 := false }.cls = .notClosed := by decide

/-! ### Witnesses: states and operands that meet the hypotheses of each statement

Each platform below is settled by `State.finish`, so that the invariant holds of it. -/

/-- The end of a command of a powered part leaves the invariant. -/
theorem inv_finish {u : State} (h : u.powered = true) : u.finish.Inv where
  settled _ := u.finish_settled
  unpowered g := by
    have e : u.finish.powered = u.powered := congrArg Setting.powered u.finish_setting
    rw [e, h] at g
    cases g

/-- A request that passes its checks, from one computation. -/
theorem accepts_of {s : State} {r : Req} {k : ReqKind}
    (h : (s.powered && !s.otherAddress r && r.len == k.length && k.allows (s.authorityOf r.port)) = true) :
    s.Accepts r k := by
  simp only [Bool.and_eq_true, Bool.not_eq_true', beq_iff_eq] at h
  exact ⟨h.1.1.1, h.1.1.2, h.1.2, h.2⟩

/-- A request of a kind on a link. -/
def rq (p : Port) (k : ReqKind) : Req := ⟨p, 0, 7, k.length⟩

/-- A LOCKED bay. -/
def lockedBay : Bay := { Bay.blank 0 with state := some .locked, cls := .provenLocked }

/-- A berth settled as profile 2, FORWARD, its first bay SERVED. -/
def berthed : Berth :=
  { Berth.blank with
    profile := some 2, orientation := some .forward, permit := .byStation
    align := { AlignResult.clear with
      outcome := .aligned, map := some [.served 1 1400, .idle, .idle, .idle, .idle] } }

/-- The interchange platform in a mode and phase, bay 1 as given and the others LOCKED. -/
def platform (m : Mode) (p : Phase) (one : Bay) : State :=
  { State.reset with
    now := 200000
    mode := m
    link := ⟨some 200500, true, 201000, some 199000, 0, true⟩
    send := { State.reset.send with sent := [] }
    berth := { BerthState.initial with phase := p, record := some berthed }
    doors := ⟨5, none, []⟩
    bays := one :: List.replicate 4 lockedBay ++ List.replicate 19 (Bay.blank 0)
    bus := ⟨5, 1, 200000, none, none⟩
    store := ⟨content, 0#16, 3, none, .idle, some content, none⟩ }

/-- The platform with bay 1 in a state. -/
def withBay (m : Mode) (p : Phase) (st : BayState) : State :=
  platform m p { lockedBay with state := some st, timer := some 100000 }

/-- The platform at rest in NORMAL, VACANT. -/
def rest : State :=
  { platform .normal .vacant lockedBay with
    berth := .initial }

theorem steady (n i : Nat) (h : i + 1 < (List.replicate n (3 : Millis)).length) :
    (List.replicate n (3 : Millis)).getD (i + 1) 0 ≤ (List.replicate n (3 : Millis)).getD i 0 + 5 := by
  rw [List.length_replicate] at h
  simp [List.getD, h, show i < n by omega]

theorem shaped_of {s : State} (h : (s.bays.length == bayEntries) = true) : s.Shaped :=
  eq_of_beq h
/-- An approach record of the train of section 3.7. -/
def approach (n : Nat) : Approach := ⟨n, 4410, 2, .forward, .stopping, some 30⟩

/-- The fields of an append with number 57. -/
def fields : AppendFields := ⟨57, 4410, 2, .named .forward, .named .stopping, some 121⟩

/-- A VACANT platform with record 56 queued. -/
def queued (expected : Option Nat) : State :=
  { rest with berth := { BerthState.initial with queue := [approach 56], expected := expected } }

/-- The interchange content under LENIENT. -/
def lenient : Content := { content with params := content.params.set 16 1 }

/-- An announced record without permit. -/
def announced : Berth := { berthed with announced := true, trainId := some 4410, permit := .notGranted }

/-- A train in ARRIVING with a record. -/
def arriving (b : Berth) : State :=
  { platform .normal .arriving lockedBay with
    berth := { BerthState.initial with phase := .arriving, record := some b } }

/-- A settled train that has stood on the beams for STOP_STABLE. -/
def standing : State :=
  { arriving berthed with
    lines := { Lines.rest with beams := 0x01FF#16 }
    berth := { BerthState.initial with
      phase := .arriving, record := some berthed, stableFrom := some 199000 } }

/-- A platform that has been clear for DEPART_CLEAR in a phase. -/
def leaving (p : Phase) : State :=
  { rest with berth := { BerthState.initial with
    phase := p, record := some berthed, clearFrom := some 198000 } }

/-- A pending isolation request of bay 1, its window over. -/
def requested (st : BayState) : State :=
  { platform .normal .vacant { lockedBay with state := some st, isolation := .pending } with
    doors := ⟨5, none, [⟨1, 140, 140000⟩]⟩ }

/-- The reply of bay 1 is awaited. -/
def awaiting (y : Bay) (p : Phase) : State :=
  { platform .normal p y with bus := ⟨5, 2, 200002, some 1, none⟩ }

/-- A train whose link is lost with bay 2, of disposition CLOSE, open. -/
def lossOpen : State :=
  { platform .normal .opened lockedBay with
    link := ⟨none, true, 200000, none, 0, false⟩
    berth := { BerthState.initial with
      phase := .opened
      record := some { berthed with align := { berthed.align with
        map := some [.idle, .served 2 1400, .idle, .idle, .idle] } } }
    bays := [lockedBay, { lockedBay with state := some .opened }] ++ List.replicate 3 lockedBay ++
      List.replicate 19 (Bay.blank 0) }

/-- The PHASE interval of the Train Link at its end. -/
def folded (x : Option NoticeDetail) (n : Nat) : State :=
  { rest with send := { rest.send with
    train := { rest.send.train with folds := { Folds.idle with phase := ⟨some 200000, x, n⟩ } } } }

/-- An alarm that is CLEARED, acknowledged or not. -/
def alarm (acked : Bool) : AlarmEntry := ⟨.restart, none, none, 3, 1, false, acked⟩

/-- A TRACK_INTRUSION that is ACTIVE and unacknowledged. -/
def intruder : AlarmEntry := ⟨.trackIntrusion, none, some (.bay 3), 150, 1, true, false⟩

/-- Bay 1 in TEST with a step in progress, its reply awaited. -/
def stepping (p : StepPosition) (x : Step) : State :=
  { platform .commissioning .vacant { lockedBay with
      state := some .test, step := some ⟨p, some (x, 199000), none⟩ } with
    bus := ⟨5, 2, 200002, some 1, none⟩ }

/-- The platform in COMMISSIONING with a working copy. -/
def working : State :=
  { platform .commissioning .vacant lockedBay with
    store := ⟨content, 0#16, 3, some content, .idle, some content, none⟩ }

/-- A commit write at its end. -/
def writing (thenExit : Bool) : State :=
  { working with store := { working.store with commit := .writing 199400 thenExit } }

/-- A load that can end, bay 1 with a reply, bay 2 lost, the others proven locked. -/
def loadingWith (d : Option StoreDetail) (r : NodeReply) : State :=
  { platform .startup .vacant lockedBay with
    berth := .initial
    bays := [{ Bay.blank 0 with recon := some (.reply r .provenLocked) },
        { Bay.blank 0 with recon := some .lost }] ++
      List.replicate 3 { Bay.blank 0 with recon := some (.reply okReply .provenLocked) } ++
      List.replicate 19 (Bay.blank 0)
    store := ⟨content, 0#16, 3, none, .idle, none, d⟩ }

/-- The same with a plain reply of bay 1. -/
def loading (d : Option StoreDetail) : State := loadingWith d okReply

/-! ### Whole operations -/

/-- The state a command leaves. -/
def after (i : Instr) (s : State) : Option State :=
  match exec i s with
  | .next t => some t
  | .fault _ => none
  | .refused _ => none

/-- COMMIT_END carries the result and the write count (R158, R175), an EMERGENCY notice the event, the cause
set and the mode (R158), a NOTICE its class, fold count and loss count before its detail (R163). -/
theorem test_notice_bytes :
    (NoticeDetail.commitEnd .done 258).bytes = [3#8, 1#8, 1#8, 2#8] ∧
    (NoticeDetail.emergency .joinedEvacuation ⟨true, [1]⟩ .emergency).bytes =
      0#8 :: 0#8 :: 0#8 :: 1#8 :: (baySetBytes [1]) ++ [natByte Mode.emergency.code] ∧
    ((Body.notice ⟨.phase, 2, .phase .vacant⟩ 5).bytes.take 3).drop 1 = [2#8, 5#8] := by decide +kernel

/-- The detail of section 7.8, channel B, drive DE_ENERGISED and readback ENERGISED: each value by its place
in its list (R111, R116, R162); an entry that is CLEARED and acknowledged ends with 01h and 00h (R164). -/
theorem test_named_value_bytes :
    (AlarmDetail.channel .b false true).bytes = [1#8, 1#8, 0#8] ∧
    (AlarmEntry.bytes (alarm true)).drop 9 = [1#8, 0#8] ∧
    (AlarmDetail.profiles (some 3) 5).bytes = [3#8, 5#8] ∧
    (replyBytes (okReply, 7)).drop 5 =
      [1#8, 1#8, 1#8, 0#8, 0#8, 0#8, 1#8, 1#8, 0#8, 0#8, 0#8, 7#8] := by decide +kernel

/-- ASSERTED, BUSY and OVERFLOW set come first in R111, R64 and R164 and are 00h (R162); in PLATFORM_STATUS
WITHHELD is 00h and BUSY 01h (R163). -/
theorem test_listed_order :
    (NoticeDetail.secure true ⟨false, false, false, false, false, false⟩ 0).bytes.take 1 = [0#8] ∧
    (OpSummary.bytes ⟨.closeOp, .train, .busy, none, 0, 0, 0, 0⟩).take 3 = [2#8, 0#8, 0#8] ∧
    (AlarmView.bytes ⟨0, 0, true, []⟩).take 3 = [0#8, 0#8, 0#8] ∧
    (startupStatus.bytes.drop 1).take 1 = [0#8] ∧ statusByte (some .busy) = [1#8] := by decide +kernel

/-- The violation report follows VALIDATION with no byte between (R14, R155). -/
theorem test_validation_bytes (v : Violation) :
    (Body.reply .validation (.store (.violation v))).bytes = 20#8 :: violationBytes v := rfl

/-- A fixed-length optional field is as long absent as present (R162). -/
theorem test_optional_lengths :
    (replyBytes (okReply, 7)).length = 17 ∧
    (Summary.bytes ⟨some 258, some 4, none, .aligned, 3⟩).length = 11 ∧
    (AlignUsed.bytes ⟨1#16, 1, none, none⟩).length = 10 ∧
    durationByte 300 = [255#8] := by decide +kernel

/-- A discrepancy that has lasted DISCREPANCY_PERSIST in STARTUP raises its alarm (R90). -/
theorem test_discrepancy_in_startup :
    (after (.discrepancyTimerExpiry 1) (platform .startup .vacant
      { lockedBay with state := none, cls := .impossible, discrepancyFrom := some 199500 }).finish).map
        (fun t => (t.hasActive .provingDiscrepant (some 1), (t.bay 1).state)) =
      some (true, none) := by decide +kernel

/-- An obstruction while REOPEN_HOLD runs ends the reopening: HELD(OPENING_BLOCKED) (R73). -/
theorem test_obstructed_in_reopen_hold :
    (after (.nodeReply { okReply with lk1 := false, lk2 := false, event := .obstructedOpening })
      (awaiting { lockedBay with state := some (.reopening .full true) } .closing).finish).map
        (fun t => (t.bay 1).state) = some (some (.held .openingBlocked)) := by decide +kernel

/-- An outcome is 00h to 03h in an operation record (R64, R162), and 01h to 04h in a DOOR_REPORT, where 00h
is none (R163). -/
theorem test_outcome_bytes :
    ((Operation.bytes ⟨.closeOp, .train, [1], .busy, none, [(1, .dropped)], 0, none⟩).drop 9).take 3 =
      [1#8, 1#8, 3#8] ∧
    (DoorReportItem.bytes ⟨1, 4, some .released, some .dropped⟩) = [1#8, 4#8, 7#8, 0#8, 4#8] ∧
    (DoorReportItem.bytes ⟨1, 4, some .locked, none⟩).drop 4 = [0#8] := by decide +kernel

/-- BAY_RELEASED is raised before the change is handed on (R120): in a list full of ACTIVE entries it finds no
room (R167), though the OBSTRUCTION_HELD of the bay ends with it (R75). -/
theorem test_release_in_a_full_list :
    (after (.nodeReply { okReply with rh := true })
      { awaiting { lockedBay with state := some (.held .obstructionLimit) } .closing with
        alarms := ⟨⟨.obstructionHeld, some 1, none, 3, 1, true, false⟩ ::
          List.replicate 47 ⟨.nodeLost, some 2, none, 3, 1, true, true⟩, false⟩ }).map
        (fun t => (t.alarms.overflow, t.hasActive .bayReleased (some 1),
          t.hasActive .obstructionHeld (some 1), t.emer.released)) =
      some (true, false, false, [(1, .rh)]) := by decide +kernel

/-- Both channels due at once: the latch names both (R116). -/
theorem test_output_fault_both :
    (after (.outputFault .b) { rest with secure := ⟨true, ⟨false, false, false, false, false, false⟩, 190,
      true, true, some 199900, some 199900, false, false⟩ }.finish).map
        (fun t => (t.secure.latchA, t.secure.latchB)) = some (true, true) := by decide +kernel

/-- The phase saved with the context is the one the release leaves: the SERVED bay gone, CLOSING (R38,
R126). -/
theorem test_release_saves_closing :
    (after (.nodeReply { okReply with rh := true })
      { platform .normal .closedProving { lockedBay with gap := .failed } with bus := ⟨5, 2, 200002, some 1, none⟩ }.finish).bind
        (fun t => t.emer.context.map (·.savedPhase)) = some .closing := by decide +kernel

/-- A RESTART out of OCCUPIED_UNKNOWN with a FAILED gap check notices the phase and the check (R27,
R105). -/
theorem test_restart_notices :
    (after (.restart (rq .station .restart)) (platform .normal .occupiedUnknown
      { lockedBay with gap := .failed }).finish).map
        (fun t => [NoticeDetail.phase .vacant, .gap 1 []].map fun d =>
          t.send.sent.any fun g => g.port == .station && g.body == .notice ⟨d.cls, 0, d⟩ 0) =
      some [true, true] := by decide +kernel

/-- An unexpected movement cancels the dwell with no bay left to close (R38). -/
theorem test_movement_cancels_dwell :
    (after (.moving (rq .train .moving)) { withBay .normal .opened (.fault .discrepant) with
      berth := { BerthState.initial with
        phase := .opened
        record := some { berthed with dwell := some 30, dwellFrom := some 190000 } } }.finish).bind
        (fun t => t.berth.record.map (·.dwellFrom)) = some none := by decide +kernel

/-- Where no timer runs and no close starts, an unexpected movement leaves the dwell to the first OPEN that is
DONE, which starts it (R38, R42). -/
theorem test_movement_leaves_the_dwell :
    (after (.moving (rq .train .moving)) { withBay .normal .opened (.fault .discrepant) with
      berth := { BerthState.initial with
        phase := .opened
        record := some { berthed with dwell := some 30 } } }.finish).bind
        (fun t => t.openComplete.berth.record.map (·.dwellFrom)) = some (some 200000) := by decide +kernel

theorem test_witness_StepTakesTheFrontCommand :
    ∃ (s : State) (c : Instr) (rest : List Instr),
    s.pending = c :: rest :=
  ⟨{ rest with pending := [.poll, .beamStop] }, .poll, [.beamStop], by decide +kernel⟩

theorem test_witness_IdleStep_powered :
    ∃ (s : State),
    s.pending = [] ∧ s.powered = true :=
  ⟨rest, by decide +kernel⟩

theorem test_witness_IdleStep_unpowered :
    ∃ (s : State),
    s.pending = [] ∧ s.powered = false :=
  ⟨{ rest with powered := false }, by decide +kernel⟩

theorem test_witness_EveryStepKeepsTheInvariant :
    ∃ (s t : State),
    s.Inv ∧ step s = .next t :=
  ⟨rest.finish, _, inv_finish rfl, rfl⟩

theorem test_witness_DrivesFollowTheEdge :
    ∃ (s : State),
    s.Inv ∧ s.secure.driveA = true :=
  ⟨rest.finish, inv_finish rfl, by decide +kernel⟩

theorem test_witness_EveryStepKeepsTheAlarmListSound :
    ∃ (s t : State),
    s.alarms.Sound ∧ step s = .next t :=
  ⟨{ rest with alarms := ⟨[⟨.restart, none, none, 3, 1, false, false⟩], false⟩ }, _,
    ⟨by decide +kernel, by decide +kernel⟩, rfl⟩

theorem test_witness_EveryStepKeepsTheQueueSound :
    ∃ (s t : State),
    s.berth.QueueSound ∧ step s = .next t :=
  ⟨{ rest with berth := { BerthState.initial with queue := [approach 255, approach 3] } }, _,
    ⟨by decide +kernel, fun h r e => by cases e; decide +kernel⟩, rfl⟩

theorem test_witness_EveryStepKeepsTheBayRecords :
    ∃ (s t : State),
    s.Shaped ∧ step s = .next t :=
  ⟨rest, _, shaped_of (by decide +kernel), rfl⟩

theorem test_witness_EveryRequestGetsOneReply :
    ∃ (s : State) (i : Instr) (r : Req) (k : ReqKind),
    requestOf i = some (r, k) ∧ s.powered = true ∧ s.otherAddress r = false :=
  ⟨rest, .moving (rq .train .moving), _, _, rfl, by decide +kernel⟩

theorem test_witness_WrongLength :
    ∃ (s : State) (i : Instr) (r : Req) (k : ReqKind),
    s.Inv ∧ requestOf i = some (r, k) ∧ k ≠ .writeParameters ∧ s.powered = true ∧
    s.otherAddress r = false ∧ r.len ≠ k.length :=
  ⟨rest.finish, .moving ⟨.train, 0, 7, 1⟩, _, _, inv_finish rfl, rfl, by decide +kernel⟩

theorem test_witness_WrongClass :
    ∃ (s : State) (i : Instr) (r : Req) (k : ReqKind),
    s.Inv ∧ requestOf i = some (r, k) ∧ k ≠ .writeParameters ∧ s.powered = true ∧
    s.otherAddress r = false ∧ r.len = k.length ∧ k.allows (s.authorityOf r.port) = false :=
  ⟨rest.finish, .moving (rq .station .moving), _, _, inv_finish rfl, rfl, by decide +kernel⟩

theorem test_witness_WriteParameters_length :
    ∃ (s : State) (r : Req) (f : ParameterFields),
    s.Inv ∧ s.powered = true ∧ s.otherAddress r = false ∧
    parametersLength f.position r.len = false ∧ r.len = 1 ∧ Param.ofPosition f.position = none ∧
    parametersLength 0 2 = true ∧ parametersLength 19 3 = true ∧
    Param.ofPosition 18 = some .noticeInterval :=
  ⟨rest.finish, ⟨.station, 0, 7, 1⟩, ⟨19, 0⟩, inv_finish rfl, by decide +kernel⟩

theorem test_witness_WriteParameters_class :
    ∃ (s : State) (r : Req) (f : ParameterFields),
    s.Inv ∧ s.powered = true ∧ s.otherAddress r = false ∧ parametersLength f.position r.len = true ∧
    ReqKind.writeParameters.allows (s.authorityOf r.port) = false :=
  ⟨rest.finish, ⟨.train, 0, 7, 4⟩, ⟨1, 500⟩, inv_finish rfl, by decide +kernel⟩

theorem test_witness_OutOfMode_writeParameters :
    ∃ (s : State) (r : Req) (f : ParameterFields),
    s.Inv ∧ s.powered = true ∧ s.otherAddress r = false ∧ parametersLength f.position r.len = true ∧
    ReqKind.writeParameters.allows (s.authorityOf r.port) = true ∧ s.mode ≠ .commissioning :=
  ⟨rest.finish, ⟨.station, 0, 7, 2⟩, ⟨17, 1⟩, inv_finish rfl, by decide +kernel⟩

theorem test_witness_OutOfMode_startup :
    ∃ (s : State) (i : Instr) (r : Req) (k : ReqKind),
    s.Inv ∧ requestOf i = some (r, k) ∧ s.Accepts r k ∧
    (s.mode = .startup ∧ k ∈ [.restoreBay, .probeAlignment, .clearUsage, .restart]) :=
  ⟨(platform .startup .vacant lockedBay).finish, .clearUsage (rq .station .clearUsage) none, _, _,
    inv_finish rfl, rfl, accepts_of (by decide +kernel), by decide +kernel⟩

theorem test_witness_OutOfMode_deisolate :
    ∃ (s : State) (i : Instr) (r : Req) (k : ReqKind),
    s.Inv ∧ requestOf i = some (r, k) ∧ s.Accepts r k ∧
    ((s.mode = .startup ∨ s.mode = .configFault) ∧ k = .deisolateBay) :=
  ⟨(platform .configFault .vacant lockedBay).finish, .deisolateBay (rq .station .deisolateBay) 1,
    _, _, inv_finish rfl, rfl, accepts_of (by decide +kernel), by decide +kernel⟩

theorem test_witness_OutOfMode_enter :
    ∃ (s : State) (i : Instr) (r : Req) (k : ReqKind),
    s.Inv ∧ requestOf i = some (r, k) ∧ s.Accepts r k ∧
    ((s.mode = .startup ∨ s.mode = .emergency) ∧ k = .enterCommissioning) :=
  ⟨(platform .emergency .vacant lockedBay).finish,
    .enterCommissioning (rq .station .enterCommissioning), _, _, inv_finish rfl, rfl,
    accepts_of (by decide +kernel), by decide +kernel⟩

theorem test_witness_OutOfMode_working :
    ∃ (s : State) (i : Instr) (r : Req) (k : ReqKind),
    s.Inv ∧ requestOf i = some (r, k) ∧ s.Accepts r k ∧ (s.mode = .commissioning ∧ k = .openRequest) :=
  ⟨(platform .commissioning .vacant lockedBay).finish, .openRequest (rq .train .openRequest), _,
    _, inv_finish rfl, rfl, accepts_of (by decide +kernel), by decide +kernel⟩

theorem test_witness_OutOfMode_append :
    ∃ (s : State) (i : Instr) (r : Req) (k : ReqKind),
    s.Inv ∧ requestOf i = some (r, k) ∧ s.Accepts r k ∧
    (s.takesAppends = false ∧ k = .appendApproach) :=
  ⟨(platform .localMode .vacant lockedBay).finish,
    .appendApproach (rq .signalling .appendApproach) fields, _, _, inv_finish rfl, rfl,
    accepts_of (by decide +kernel), by decide +kernel⟩

theorem test_witness_OutOfMode_rearm :
    ∃ (s : State) (i : Instr) (r : Req) (k : ReqKind),
    s.Inv ∧ requestOf i = some (r, k) ∧ s.Accepts r k ∧ (s.mode ≠ .emergency ∧ k = .rearm) :=
  ⟨(platform .normal .vacant lockedBay).finish, .rearm (rq .station .rearm), _, _, inv_finish rfl,
    rfl, accepts_of (by decide +kernel), by decide +kernel⟩

theorem test_witness_OutOfMode_commit :
    ∃ (s : State) (i : Instr) (r : Req) (k : ReqKind),
    s.Inv ∧ requestOf i = some (r, k) ∧ s.Accepts r k ∧ (s.mode ≠ .commissioning ∧ k = .commit) :=
  ⟨(platform .normal .vacant lockedBay).finish, .commit (rq .station .commit), _, _,
    inv_finish rfl, rfl, accepts_of (by decide +kernel), by decide +kernel⟩

theorem test_witness_OutOfMode_emergency :
    ∃ (s : State) (i : Instr) (r : Req) (k : ReqKind),
    s.Inv ∧ requestOf i = some (r, k) ∧ s.Accepts r k ∧ (s.mode = .emergency ∧ k = .closeStation) :=
  ⟨(platform .emergency .vacant lockedBay).finish, .closeStation (rq .station .closeStation), _,
    _, inv_finish rfl, rfl, accepts_of (by decide +kernel), by decide +kernel⟩

theorem test_witness_FramesThatAreNoRequest :
    ∃ (s : State) (p : Port),
    s.Inv ∧ s.powered = true ∧ p ≠ .train ∧ s.link.trainUp = true :=
  ⟨rest.finish, .station, inv_finish rfl, by decide +kernel⟩

theorem test_witness_FramesThatAreNoRequest_linkDown :
    ∃ (s : State),
    s.Inv ∧ s.powered = true ∧ s.link.trainUp = false ∧ s.berth.phase.reportsBerth = true ∧
    s.berth.phase.reportsDoors = true ∧ s.doors.operation.isSome = true :=
  ⟨{ withBay .normal .opened .opened with
        link := ⟨none, false, 0, none, 0, true⟩
        doors := ⟨5, some ⟨.openOp, .train, [1], .done, none, [(1, .reached)], 190, some 193⟩, []⟩ }.finish,
    inv_finish rfl, by decide +kernel⟩

theorem test_witness_FramesThatAreNoRequest_unknown :
    ∃ (s : State) (r : Req),
    s.Inv ∧ s.powered = true ∧ s.otherAddress r = false :=
  ⟨rest.finish, ⟨.station, 0, 7, 0⟩, inv_finish rfl, by decide +kernel⟩

theorem test_witness_Reads :
    ∃ (s : State),
    s.Inv ∧ s.Accepts (rq .signalling .statusRequest) .statusRequest ∧
    (∀ k ∈ [ReqKind.statusRead, .queueRead, .bayRead, .alarmRead], s.Accepts (rq .station k) k) ∧
    s.inTable 5 = true ∧ s.inTable 6 = false :=
  ⟨rest.finish, inv_finish rfl, accepts_of (by decide +kernel),
    fun k h => accepts_of (by revert k h; decide +kernel), by decide +kernel⟩

theorem test_witness_Probe :
    ∃ (s : State) (r : Req),
    s.Inv ∧ s.Accepts r .probeAlignment ∧ s.working = true ∧ s.profileKnown 2 = true ∧
    (-4000 : Mm) ≤ -4000 ∧ (4000 : Mm) ≤ 4000 :=
  ⟨rest.finish, rq .station .probeAlignment, inv_finish rfl, accepts_of (by decide +kernel),
    by decide +kernel⟩

theorem test_witness_Heartbeat :
    ∃ (s : State) (r : Req),
    s.Inv ∧ s.Accepts r .heartbeat ∧ s.mode = .localMode :=
  ⟨(platform .localMode .vacant lockedBay).finish, rq .signalling .heartbeat, inv_finish rfl,
    accepts_of (by decide +kernel), by decide +kernel⟩

theorem test_witness_WatchdogExpiry_normal :
    ∃ (s : State) (m : Nat),
    s.Inv ∧ s.powered = true ∧ s.link.watchdog = some m ∧ m ≤ s.now ∧ s.mode = .normal :=
  ⟨{ rest with link := ⟨some 200000, true, 201000, none, 0, true⟩ }.finish, 200000,
    inv_finish rfl, by decide +kernel⟩

theorem test_witness_WatchdogExpiry_emergency :
    ∃ (s : State) (m : Nat),
    s.Inv ∧ s.powered = true ∧ s.link.watchdog = some m ∧ m ≤ s.now ∧
    s.emer.context.map (·.savedMode) = some .normal :=
  ⟨{ platform .emergency .vacant lockedBay with
        link := ⟨some 200000, true, 201000, none, 0, true⟩
        emer := ⟨true, [], some ⟨.normal, .vacant, none, [], 3⟩⟩ }.finish, 200000, inv_finish rfl,
    by decide +kernel⟩

theorem test_witness_AppendInSequence_first :
    ∃ (s : State),
    s.Inv ∧ s.Accepts (rq .signalling .appendApproach) .appendApproach ∧ s.takesAppends = true ∧
    fields.orientation = .named .forward ∧ fields.service = .named .stopping ∧
    s.profileKnown fields.profile = true ∧ s.berth.syncLost = false ∧ s.berth.queue.length < 8 ∧
    (∀ y ∈ s.berth.queue, y.seq ≠ fields.seq) ∧ s.berth.expected = none ∧
    comesAfterTail s.berth.queue fields.seq = true :=
  ⟨rest.finish, inv_finish rfl, accepts_of (by decide +kernel), by decide +kernel⟩

theorem test_witness_AppendInSequence_next :
    ∃ (s : State),
    s.Inv ∧ s.Accepts (rq .signalling .appendApproach) .appendApproach ∧ s.takesAppends = true ∧
    fields.orientation = .named .forward ∧ fields.service = .named .stopping ∧
    s.profileKnown fields.profile = true ∧ s.berth.syncLost = false ∧ s.berth.queue.length < 8 ∧
    (∀ y ∈ s.berth.queue, y.seq ≠ fields.seq) ∧ s.berth.expected = some fields.seq ∧
    comesAfterTail s.berth.queue fields.seq = true :=
  ⟨(queued (some 57)).finish, inv_finish rfl, accepts_of (by decide +kernel), by decide +kernel⟩

theorem test_witness_AppendOutOfSequence_strict :
    ∃ (s : State),
    s.Inv ∧ s.Accepts (rq .signalling .appendApproach) .appendApproach ∧ s.takesAppends = true ∧
    fields.orientation = .named .forward ∧ fields.service = .named .stopping ∧
    s.profileKnown fields.profile = true ∧ s.berth.syncLost = false ∧ s.berth.queue.length < 8 ∧
    (∀ y ∈ s.berth.queue, y.seq ≠ fields.seq) ∧ s.berth.expected = some 58 ∧ 58 ≠ fields.seq ∧
    s.content.param .queuePolicy = 0 :=
  ⟨(queued (some 58)).finish, inv_finish rfl, accepts_of (by decide +kernel), by decide +kernel⟩

theorem test_witness_AppendOutOfSequence_lenient :
    ∃ (s : State),
    s.Inv ∧ s.Accepts (rq .signalling .appendApproach) .appendApproach ∧ s.takesAppends = true ∧
    fields.orientation = .named .forward ∧ fields.service = .named .stopping ∧
    s.profileKnown fields.profile = true ∧ s.berth.syncLost = false ∧ s.berth.queue.length < 8 ∧
    (∀ y ∈ s.berth.queue, y.seq ≠ fields.seq) ∧ s.berth.expected = some 58 ∧ 58 ≠ fields.seq ∧
    s.content.param .queuePolicy ≠ 0 ∧ comesAfterTail s.berth.queue fields.seq = true :=
  ⟨{ queued (some 58) with store := { rest.store with inForce := some lenient } }.finish,
    inv_finish rfl, accepts_of (by decide +kernel), by decide +kernel⟩

theorem test_witness_Withdraw_outOfService :
    ∃ (s : State),
    s.Inv ∧ s.Accepts (rq .signalling .withdrawApproach) .withdrawApproach ∧ s.working = false :=
  ⟨(platform .commissioning .vacant lockedBay).finish, inv_finish rfl,
    accepts_of (by decide +kernel), by decide +kernel⟩

theorem test_witness_Withdraw_queued :
    ∃ (s : State),
    s.Inv ∧ s.Accepts (rq .signalling .withdrawApproach) .withdrawApproach ∧ s.working = true ∧
    (∃ y ∈ s.berth.queue, y.seq = 56) :=
  ⟨(queued none).finish, inv_finish rfl, accepts_of (by decide +kernel), by decide +kernel⟩

theorem test_witness_Withdraw_unknown :
    ∃ (s : State),
    s.Inv ∧ s.Accepts (rq .signalling .withdrawApproach) .withdrawApproach ∧ s.working = true ∧
    (∀ y ∈ s.berth.queue, y.seq ≠ 9) :=
  ⟨(queued none).finish, inv_finish rfl, accepts_of (by decide +kernel), by decide +kernel⟩

theorem test_witness_Resync :
    ∃ (s : State),
    s.Inv ∧ s.Accepts (rq .signalling .resyncQueue) .resyncQueue ∧ s.working = true :=
  ⟨(queued none).finish, inv_finish rfl, accepts_of (by decide +kernel), by decide +kernel⟩

theorem test_witness_ArrivalBindsTheHead :
    ∃ (s : State) (a : Approach) (rest : List Approach),
    s.Inv ∧ s.powered = true ∧ s.berth.phase = .vacant ∧ s.mode = .normal ∧
    s.berth.queue = a :: rest ∧ s.lines.beams.getLsbD 0 = false :=
  ⟨(queued none).finish, approach 56, [], inv_finish rfl, by decide +kernel⟩

theorem test_witness_ArrivalBindsTheHead_emergency :
    ∃ (s : State) (a : Approach) (rest : List Approach),
    s.Inv ∧ s.powered = true ∧ s.berth.phase = .vacant ∧ s.lines.beams.getLsbD 0 = false ∧
    s.alarms.entries.length < 47 ∧ s.mode = .emergency ∧ s.berth.queue = a :: rest :=
  ⟨{ platform .emergency .vacant lockedBay with
        berth := { BerthState.initial with queue := [approach 56, approach 57] } }.finish,
    approach 56, [approach 57], inv_finish rfl, by decide +kernel⟩

theorem test_witness_UnannouncedArrival :
    ∃ (s : State),
    s.Inv ∧ s.powered = true ∧ s.berth.phase = .vacant ∧ s.lines.beams.getLsbD 0 = false ∧
    s.alarms.entries.length < 47 ∧ s.mode = .normal ∧ s.berth.queue = [] :=
  ⟨{ rest with alarms := ⟨List.replicate 46 (alarm true), false⟩ }.finish, inv_finish rfl,
    by decide +kernel⟩

theorem test_witness_ArrivalOutOfService_configFault :
    ∃ (s : State),
    s.Inv ∧ s.powered = true ∧ s.berth.phase = .vacant ∧ s.lines.beams.getLsbD 0 = false ∧
    s.alarms.entries.length < 47 ∧ s.mode = .configFault :=
  ⟨{ platform .configFault .vacant lockedBay with berth := .initial }.finish, inv_finish rfl,
    by decide +kernel⟩

theorem test_witness_ArrivalOutOfService_commissioning :
    ∃ (s : State),
    s.Inv ∧ s.powered = true ∧ s.berth.phase = .vacant ∧ s.lines.beams.getLsbD 0 = false ∧
    s.alarms.entries.length < 47 ∧ s.mode = .commissioning :=
  ⟨{ platform .commissioning .vacant lockedBay with berth := .initial }.finish, inv_finish rfl,
    by decide +kernel⟩

theorem test_witness_Identify_fills :
    ∃ (s : State) (b : Berth),
    s.Inv ∧ s.Accepts (rq .train .identify) .identify ∧ s.link.trainUp = true ∧ s.working = true ∧
    s.berth.phase = .arriving ∧ s.berth.record = some b ∧ s.berth.pendingStop = false ∧
    b.disputed = false ∧ s.profileKnown 2 = true ∧ b.announced = false :=
  ⟨(arriving berthed).finish, berthed, inv_finish rfl, accepts_of (by decide +kernel),
    by decide +kernel⟩

theorem test_witness_Identify_matches :
    ∃ (s : State) (b : Berth),
    s.Inv ∧ s.Accepts (rq .train .identify) .identify ∧ s.link.trainUp = true ∧ s.working = true ∧
    s.berth.phase = .arriving ∧ s.berth.record = some b ∧ s.berth.pendingStop = false ∧
    b.disputed = false ∧ s.profileKnown 2 = true ∧ b.announced = true ∧ b.trainId = some 4410 ∧
    b.profile = some 2 ∧ b.orientation = some .forward :=
  ⟨(arriving announced).finish, announced, inv_finish rfl, accepts_of (by decide +kernel),
    by decide +kernel⟩

theorem test_witness_Identify_disputes :
    ∃ (s : State) (b : Berth),
    s.Inv ∧ s.Accepts (rq .train .identify) .identify ∧ s.link.trainUp = true ∧ s.working = true ∧
    s.berth.phase = .arriving ∧ s.berth.record = some b ∧ s.berth.pendingStop = false ∧
    b.disputed = false ∧ s.profileKnown 2 = true ∧ b.announced = true ∧
    (¬(b.trainId = some 9 ∧ b.profile = some 2 ∧ b.orientation = some .forward)) :=
  ⟨(arriving announced).finish, announced, inv_finish rfl, accepts_of (by decide +kernel),
    by decide +kernel⟩

theorem test_witness_ConfirmOpen_wrongMode :
    ∃ (s : State),
    s.Inv ∧ s.Accepts (rq .station .confirmOpen) .confirmOpen ∧
    (s.mode ≠ .normal ∧ s.mode ≠ .localMode ∧ s.mode ≠ .emergency) :=
  ⟨(platform .commissioning .vacant lockedBay).finish, inv_finish rfl,
    accepts_of (by decide +kernel), by decide +kernel⟩

theorem test_witness_ConfirmOpen_wrongPhase :
    ∃ (s : State),
    s.Inv ∧ s.Accepts (rq .station .confirmOpen) .confirmOpen ∧ s.mode = .normal ∧
    s.berth.phase = .vacant :=
  ⟨rest.finish, inv_finish rfl, accepts_of (by decide +kernel), by decide +kernel⟩

theorem test_witness_ConfirmOpen_disputed :
    ∃ (s : State) (b : Berth),
    s.Inv ∧ s.Accepts (rq .station .confirmOpen) .confirmOpen ∧ s.mode = .normal ∧
    s.berth.phase ≠ .vacant ∧ s.berth.phase ≠ .departing ∧ s.berth.record = some b ∧
    b.disputed = true :=
  ⟨(arriving { berthed with disputed := true }).finish, { berthed with disputed := true },
    inv_finish rfl, accepts_of (by decide +kernel), by decide +kernel⟩

theorem test_witness_ConfirmOpen_already :
    ∃ (s : State) (b : Berth),
    s.Inv ∧ s.Accepts (rq .station .confirmOpen) .confirmOpen ∧ s.mode = .normal ∧
    s.berth.phase ≠ .vacant ∧ s.berth.phase ≠ .departing ∧ s.berth.record = some b ∧
    b.disputed = false ∧ b.permit ≠ .notGranted :=
  ⟨(arriving berthed).finish, berthed, inv_finish rfl, accepts_of (by decide +kernel),
    by decide +kernel⟩

theorem test_witness_ConfirmOpen_grants :
    ∃ (s : State) (b : Berth),
    s.Inv ∧ s.Accepts (rq .station .confirmOpen) .confirmOpen ∧ s.mode = .normal ∧
    s.berth.phase ≠ .vacant ∧ s.berth.phase ≠ .departing ∧ s.berth.record = some b ∧
    b.disputed = false ∧ b.permit = .notGranted :=
  ⟨(arriving announced).finish, announced, inv_finish rfl, accepts_of (by decide +kernel),
    by decide +kernel⟩

theorem test_witness_ConfirmBerth :
    ∃ (s : State) (b : Berth),
    s.Inv ∧ s.Accepts (rq .station .confirmBerth) .confirmBerth ∧ s.working = true ∧
    s.berth.phase = .arriving ∧ s.berth.record = some b ∧ s.berth.pendingStop = false ∧
    s.profileKnown 2 = true :=
  ⟨(arriving announced).finish, announced, inv_finish rfl, accepts_of (by decide +kernel),
    by decide +kernel⟩

theorem test_witness_AStop_reported :
    ∃ (s : State) (b : Berth),
    s.Inv ∧ s.Accepts (rq .train .stopped) .stopped ∧ s.working = true ∧ s.berth.phase = .arriving ∧
    s.berth.record = some b ∧ b.disputed = false ∧ b.profile = some 2 ∧
    b.orientation = some .forward ∧ s.emer.evacuation = false ∧ s.link.trainUp = true ∧
    ((-4000 : Mm) ≤ -4000 ∧ (-4000 : Mm) ≤ 4000) :=
  ⟨(arriving berthed).finish, berthed, inv_finish rfl, accepts_of (by decide +kernel),
    by decide +kernel⟩

theorem test_witness_AStop_fromBeams :
    ∃ (s : State) (b : Berth),
    s.Inv ∧ s.working = true ∧ s.berth.phase = .arriving ∧ s.berth.record = some b ∧
    b.disputed = false ∧ b.profile = some 2 ∧ b.orientation = some .forward ∧
    s.emer.evacuation = false ∧ s.powered = true ∧ s.beamStopDue = true :=
  ⟨standing.finish, berthed, inv_finish rfl, by decide +kernel⟩

theorem test_witness_Moving_aligned :
    ∃ (s : State) (b : Berth),
    s.Inv ∧ s.Accepts (rq .train .moving) .moving ∧ s.link.trainUp = true ∧ s.working = true ∧
    s.berth.record = some b ∧ s.berth.phase = .aligned :=
  ⟨(platform .normal .aligned lockedBay).finish, berthed, inv_finish rfl,
    accepts_of (by decide +kernel), by decide +kernel⟩

theorem test_witness_Moving_secure :
    ∃ (s : State) (b : Berth),
    s.Inv ∧ s.Accepts (rq .train .moving) .moving ∧ s.link.trainUp = true ∧ s.working = true ∧
    s.berth.record = some b ∧ s.berth.phase = .secureBerthed :=
  ⟨(platform .normal .secureBerthed lockedBay).finish, berthed, inv_finish rfl,
    accepts_of (by decide +kernel), by decide +kernel⟩

theorem test_witness_MovingWithDoorsOpen :
    ∃ (s : State) (b : Nat),
    s.Inv ∧ s.Accepts (rq .train .moving) .moving ∧ s.Shaped ∧ s.link.trainUp = true ∧
    s.working = true ∧ s.berth.phase = .opened ∧ s.inTable b = true ∧ b ≤ 24 ∧
    (s.bay b).state = some .opened :=
  ⟨(withBay .normal .opened .opened).finish, 1, inv_finish rfl, accepts_of (by decide +kernel),
    shaped_of (by decide +kernel), by decide +kernel⟩

theorem test_witness_Departure_begins :
    ∃ (s : State),
    s.Inv ∧ s.powered = true ∧ s.berth.phase = .arriving ∧ s.lines.beams.getLsbD 0 = true ∧
    s.mode ≠ .startup :=
  ⟨standing.finish, inv_finish rfl, by decide +kernel⟩

theorem test_witness_Departure_clears :
    ∃ (s : State),
    s.Inv ∧ s.Shaped ∧ s.powered = true ∧ s.clearDue .departing = true ∧ s.doors.count ≤ 24 :=
  ⟨(leaving .departing).finish, inv_finish rfl, shaped_of (by decide +kernel), by decide +kernel⟩

theorem test_witness_Departure_unknown :
    ∃ (s : State),
    s.Inv ∧ s.Shaped ∧ s.powered = true ∧ s.clearDue .occupiedUnknown = true ∧ s.doors.count ≤ 24 :=
  ⟨(leaving .occupiedUnknown).finish, inv_finish rfl, shaped_of (by decide +kernel),
    by decide +kernel⟩

theorem test_witness_DwellExpiry :
    ∃ (s : State) (b : Berth),
    s.Inv ∧ s.powered = true ∧ s.berth.record = some b ∧ b.dwellFrom = some 170000 ∧
    170000 + b.dwell.getD 0 * 1000 ≤ s.now ∧ s.link.trainUp = true ∧
    s.send.train.mask.dwell = true ∧ s.send.train.folds.dwell.until_ = none ∧
    s.send.station.mask.dwell = true ∧ s.send.station.folds.dwell.until_ = none :=
  ⟨{ withBay .normal .opened .opened with
        berth := { BerthState.initial with phase := .opened, record := some { berthed with dwell := some 30, dwellFrom := some 170000 } } }.finish,
    { berthed with dwell := some 30, dwellFrom := some 170000 }, inv_finish rfl, by decide +kernel⟩

theorem test_witness_FusedOffset :
    (∀ i, i < 15 → content.beam i + 20 ≤ content.beam (i + 1)) ∧
    (fuse content 0x01FF#16 (some 160)).d = some (149, .fused) ∧ Source.fused ≠ .trainOnly ∧
    (fuse content 0x01FF#16 none).d = some (100, .beams) :=
  ⟨by decide +kernel, by decide +kernel, by decide +kernel, by decide +kernel⟩

theorem test_witness_ServedBay :
    (bayMap content (content.profile 2) .forward 112 [1, 2, 3, 4, 5])[5 - 1]? = some (.served 4 1238) ∧
    (bayMap content (content.profile 2) .forward 112 [1, 2, 3, 4, 5])[1 - 1]? = some (.served 1 1400) :=
  by decide +kernel

theorem test_witness_Open_train :
    ∃ (s : State) (b : Berth),
    s.Inv ∧ s.Shaped ∧ s.Accepts (rq .train .openRequest) .openRequest ∧ s.doors.count ≤ 24 ∧
    s.mode = .normal ∧ s.berth.phase = .aligned ∧ s.berth.record = some b ∧ b.permit ≠ .notGranted ∧
    s.openTargets ≠ [] ∧ s.link.trainUp = true :=
  ⟨(platform .normal .aligned lockedBay).finish, berthed, inv_finish rfl,
    shaped_of (by decide +kernel), accepts_of (by decide +kernel), by decide +kernel⟩

theorem test_witness_Open_station :
    ∃ (s : State) (b : Berth),
    s.Inv ∧ s.Shaped ∧ s.Accepts (rq .station .openStation) .openStation ∧ s.doors.count ≤ 24 ∧
    s.mode = .normal ∧ s.berth.phase = .aligned ∧ s.berth.record = some b ∧ b.permit ≠ .notGranted ∧
    s.openTargets ≠ [] :=
  ⟨(platform .normal .aligned lockedBay).finish, berthed, inv_finish rfl,
    shaped_of (by decide +kernel), accepts_of (by decide +kernel), by decide +kernel⟩

theorem test_witness_Close_train :
    ∃ (s : State),
    s.Inv ∧ s.Shaped ∧ s.Accepts (rq .train .closeRequest) .closeRequest ∧ s.doors.count ≤ 24 ∧
    s.mode = .normal ∧ s.berth.phase = .opened ∧ s.closeBusy = false ∧ s.closeTargets ≠ [] ∧
    s.link.trainUp = true :=
  ⟨(withBay .normal .opened .opened).finish, inv_finish rfl, shaped_of (by decide +kernel),
    accepts_of (by decide +kernel), by decide +kernel⟩

theorem test_witness_Close_station :
    ∃ (s : State),
    s.Inv ∧ s.Shaped ∧ s.Accepts (rq .station .closeStation) .closeStation ∧ s.doors.count ≤ 24 ∧
    s.mode = .normal ∧ s.berth.phase = .opened ∧ s.closeBusy = false ∧ s.closeTargets ≠ [] :=
  ⟨(withBay .normal .opened .opened).finish, inv_finish rfl, shaped_of (by decide +kernel),
    accepts_of (by decide +kernel), by decide +kernel⟩

theorem test_witness_RetryBay :
    ∃ (s : State),
    s.Inv ∧ s.Shaped ∧ s.Accepts (rq .station .retryBay) .retryBay ∧ s.working = true ∧
    s.inTable 1 = true ∧ s.ownedByOperation 1 = false ∧ s.bayIs 1 BayState.isHeld = true :=
  ⟨(withBay .normal .closing (.held .obstructionLimit)).finish, inv_finish rfl,
    shaped_of (by decide +kernel), accepts_of (by decide +kernel), by decide +kernel⟩

theorem test_witness_CloseBay :
    ∃ (s : State),
    s.Inv ∧ s.Shaped ∧ s.Accepts (rq .station .closeBay) .closeBay ∧ s.working = true ∧
    s.inTable 1 = true ∧ s.ownedByOperation 1 = false ∧ s.bayIs 1 BayState.isClosable = true :=
  ⟨(withBay .normal .closing (.fault .openTimeout)).finish, inv_finish rfl,
    shaped_of (by decide +kernel), accepts_of (by decide +kernel), by decide +kernel⟩

theorem test_witness_ClearUsage :
    ∃ (s : State),
    s.Inv ∧ s.Shaped ∧ s.Accepts (rq .station .clearUsage) .clearUsage ∧ s.doors.count ≤ 24 ∧
    s.mode ≠ .startup ∧ s.inTable 5 = true :=
  ⟨rest.finish, inv_finish rfl, shaped_of (by decide +kernel), accepts_of (by decide +kernel),
    by decide +kernel⟩

theorem test_witness_OpenTimeout :
    ∃ (s : State),
    s.Inv ∧ s.Shaped ∧ s.powered = true ∧ s.openTimeoutDue 1 = true ∧ s.alarms.entries.length < 48 :=
  ⟨(withBay .normal .opening .opening).finish, inv_finish rfl, shaped_of (by decide +kernel),
    by decide +kernel⟩

theorem test_witness_CloseTimeout :
    ∃ (s : State),
    s.Inv ∧ s.Shaped ∧ s.powered = true ∧ s.closeTimeoutDue 1 = true ∧ s.alarms.entries.length < 48 :=
  ⟨(withBay .normal .closing (.closing .normal)).finish, inv_finish rfl,
    shaped_of (by decide +kernel), by decide +kernel⟩

theorem test_witness_DoorwayHold :
    ∃ (s : State),
    s.Inv ∧ s.Shaped ∧ s.powered = true ∧ s.doorwayHoldDue 1 = true ∧ s.alarms.entries.length < 48 :=
  ⟨(withBay .normal .closing .closeWait).finish, inv_finish rfl, shaped_of (by decide +kernel),
    by decide +kernel⟩

theorem test_witness_Recovery :
    ∃ (s : State),
    s.Inv ∧ s.Shaped ∧ s.powered = true ∧ s.recoveryDue 1 = true :=
  ⟨(platform .normal .vacant
        { lockedBay with state := some (.fault .discrepant), recoveryFrom := some 199500 }).finish,
    inv_finish rfl, shaped_of (by decide +kernel), by decide +kernel⟩

theorem test_witness_Reclose :
    ∃ (s : State),
    s.Inv ∧ s.Shaped ∧ s.powered = true ∧
    (s.reopenHoldDue 1 = true ∧ (s.bay 1).retry < s.param .retryLimit) ∧
    s.alarms.entries.length < 48 :=
  ⟨(withBay .normal .closing (.reopening .full true)).finish, inv_finish rfl,
    shaped_of (by decide +kernel), by decide +kernel⟩

theorem test_witness_HeldAtTheLimit :
    ∃ (s : State),
    s.Inv ∧ s.Shaped ∧ s.powered = true ∧ s.reopenHoldDue 1 = true ∧
    s.param .retryLimit ≤ (s.bay 1).retry ∧ s.alarms.entries.length < 48 :=
  ⟨(platform .normal .closing
        { lockedBay with state := some (.reopening .standing true), timer := some 198000, retry := 2 }).finish,
    inv_finish rfl, shaped_of (by decide +kernel), by decide +kernel⟩

theorem test_witness_Discrepancy :
    ∃ (s : State),
    s.Inv ∧ s.Shaped ∧ s.powered = true ∧ s.discrepancyDue 1 = true ∧ s.alarms.entries.length < 48 ∧
    (s.bay 1).state = some .locked :=
  ⟨(platform .normal .vacant
        { lockedBay with state := some .locked, cls := .impossible, discrepancyFrom := some 199500 }).finish,
    inv_finish rfl, shaped_of (by decide +kernel), by decide +kernel⟩

theorem test_witness_Discrepancy_released :
    ∃ (s : State),
    s.Inv ∧ s.Shaped ∧ s.powered = true ∧ s.discrepancyDue 1 = true ∧ s.alarms.entries.length < 48 ∧
    (s.bay 1).state = some .released :=
  ⟨(platform .normal .vacant
        { lockedBay with state := some .released, cls := .impossible, discrepancyFrom := some 199500 }).finish,
    inv_finish rfl, shaped_of (by decide +kernel), by decide +kernel⟩

theorem test_witness_Discrepancy_startup :
    ∃ (s : State),
    s.Inv ∧ s.Shaped ∧ s.powered = true ∧ s.discrepancyDue 1 = true ∧ s.alarms.entries.length < 48 ∧
    (s.bay 1).state = none ∧ s.mode = .startup :=
  ⟨(platform .startup .vacant
        { lockedBay with state := none, cls := .impossible, discrepancyFrom := some 199500 }).finish,
    inv_finish rfl, shaped_of (by decide +kernel), by decide +kernel⟩

theorem test_witness_IsolateBay :
    ∃ (s : State),
    s.Inv ∧ s.Shaped ∧ s.Accepts (rq .station .isolateBay) .isolateBay ∧ s.working = true ∧
    s.inTable 1 = true ∧ (s.bay 1).state = some .locked ∧ s.request 1 = none ∧
    s.doors.requests.length < 4 ∧
    s.isolatedCount + s.doors.requests.length + 1 ≤ s.param .isolationLimit :=
  ⟨rest.finish, inv_finish rfl, shaped_of (by decide +kernel), accepts_of (by decide +kernel),
    by decide +kernel⟩

theorem test_witness_Concurrence :
    ∃ (s : State),
    s.Inv ∧ s.Shaped ∧ (∃ why, (s.bay 1).state = some (.fault why)) ∧
    s.Accepts (rq .signalling .isolationConcurrence) .isolationConcurrence ∧ s.working = true ∧
    s.inTable 1 = true ∧ (s.request 1).isSome = true :=
  ⟨(requested (.fault .discrepant)).finish, inv_finish rfl, shaped_of (by decide +kernel),
    ⟨.discrepant, by decide +kernel⟩, accepts_of (by decide +kernel), by decide +kernel⟩

theorem test_witness_Deisolate :
    ∃ (s : State),
    s.Inv ∧ s.Shaped ∧ s.Accepts (rq .station .deisolateBay) .deisolateBay ∧ s.mode ≠ .startup ∧
    s.mode ≠ .configFault ∧ s.inTable 1 = true ∧ (s.bay 1).state = some .isolated ∧
    (s.bay 1).provenFit (·.iso) = true :=
  ⟨(platform .normal .vacant
        { lockedBay with state := some .isolated, isolation := .byContact, lastReply := some (okReply, 199) }).finish,
    inv_finish rfl, shaped_of (by decide +kernel), accepts_of (by decide +kernel),
    by decide +kernel⟩

theorem test_witness_IsolationWindow :
    ∃ (s : State),
    s.Inv ∧ s.Shaped ∧ s.powered = true ∧ s.isolationDue 1 = true ∧ s.alarms.entries.length < 48 :=
  ⟨(requested .locked).finish, inv_finish rfl, shaped_of (by decide +kernel), by decide +kernel⟩

theorem test_witness_RestoreBay :
    ∃ (s : State),
    s.Inv ∧ s.Shaped ∧ s.Accepts (rq .station .restoreBay) .restoreBay ∧ s.mode ≠ .startup ∧
    s.inTable 1 = true ∧ (s.bay 1).state = some .released ∧ (s.bay 1).provenFit (·.releases) = true :=
  ⟨{ platform .emergency .vacant { lockedBay with
        state := some .released
        lastReply := some (okReply, 199) } with emer := ⟨false, [(1, .rh)], none⟩ }.finish,
    inv_finish rfl, shaped_of (by decide +kernel), accepts_of (by decide +kernel),
    by decide +kernel⟩

theorem test_witness_Rearm_closes :
    ∃ (s : State),
    s.Inv ∧ s.Shaped ∧ s.Accepts (rq .station .rearm) .rearm ∧ s.doors.count ≤ 24 ∧
    s.mode = .emergency ∧ s.noCause = true ∧ s.busy = none ∧ s.rearmTargets ≠ [] ∧
    s.berth.phase.isBerthed = true :=
  ⟨(platform .emergency .opened
        { lockedBay with state := some .opened, evacOpened := true }).finish, inv_finish rfl,
    shaped_of (by decide +kernel), accepts_of (by decide +kernel), by decide +kernel⟩

theorem test_witness_Rearm_checks :
    ∃ (s : State),
    s.Inv ∧ s.Shaped ∧ s.Accepts (rq .station .rearm) .rearm ∧ s.doors.count ≤ 24 ∧
    s.mode = .emergency ∧ s.noCause = true ∧ s.busy = none ∧ s.rearmTargets = [] ∧
    s.rearmGaps = [1] ∧ s.berth.phase.isBerthed = true :=
  ⟨(platform .emergency .secureBerthed lockedBay).finish, inv_finish rfl,
    shaped_of (by decide +kernel), accepts_of (by decide +kernel), by decide +kernel⟩

theorem test_witness_Rearm_noTrain :
    ∃ (s : State),
    s.Inv ∧ s.Shaped ∧ s.Accepts (rq .station .rearm) .rearm ∧ s.doors.count ≤ 24 ∧
    s.mode = .emergency ∧ s.noCause = true ∧ s.busy = none ∧ s.rearmTargets = [] ∧
    s.berth.phase.isBerthed = false :=
  ⟨(platform .emergency .vacant lockedBay).finish, inv_finish rfl, shaped_of (by decide +kernel),
    accepts_of (by decide +kernel), by decide +kernel⟩

theorem test_witness_Rearm_toOpen :
    ∃ (s : State),
    s.Inv ∧ s.Shaped ∧ s.Accepts (rq .station .rearm) .rearm ∧ s.doors.count ≤ 24 ∧
    s.mode = .emergency ∧ s.noCause = true ∧ s.busy = none ∧ s.rearmTargets = [] ∧
    s.berth.phase.isBerthed = true ∧ (∃ b ∈ s.servedBays, (s.bay b).state = some .opened) :=
  ⟨(platform .emergency .opened { lockedBay with state := some .opened }).finish, inv_finish rfl,
    shaped_of (by decide +kernel), accepts_of (by decide +kernel), by decide +kernel⟩

theorem test_witness_Rearm_toClosing :
    ∃ (s : State),
    s.Inv ∧ s.Shaped ∧ s.Accepts (rq .station .rearm) .rearm ∧ s.doors.count ≤ 24 ∧
    s.mode = .emergency ∧ s.noCause = true ∧ s.busy = none ∧ s.rearmTargets = [] ∧
    s.berth.phase.isBerthed = true ∧
    (∀ b ∈ s.servedBays, (s.bay b).state ≠ some .opened ∧ (s.bay b).state ≠ some .opening) ∧
    (∃ b ∈ s.servedBays, s.bayIs b BayState.isShut = false) :=
  ⟨(platform .emergency .closing { lockedBay with state := some (.fault .closeTimeout) }).finish,
    inv_finish rfl, shaped_of (by decide +kernel), accepts_of (by decide +kernel),
    by decide +kernel⟩

theorem test_witness_Rearm_toProving :
    ∃ (s : State),
    s.Inv ∧ s.Shaped ∧ s.Accepts (rq .station .rearm) .rearm ∧ s.doors.count ≤ 24 ∧
    s.mode = .emergency ∧ s.noCause = true ∧ s.busy = none ∧ s.rearmTargets = [] ∧
    s.berth.phase.isBerthed = true ∧ (∀ b ∈ s.servedBays, s.bayIs b BayState.isShut = true) ∧
    s.rearmGaps = [] ∧ (∃ b ∈ s.tableBays, (s.bay b).gap.isOpen = true) :=
  ⟨(platform .emergency .closedProving { lockedBay with gap := .failed }).finish, inv_finish rfl,
    shaped_of (by decide +kernel), accepts_of (by decide +kernel), by decide +kernel⟩

theorem test_witness_Rearm_toSecure :
    ∃ (s : State),
    s.Inv ∧ s.Shaped ∧ s.Accepts (rq .station .rearm) .rearm ∧ s.doors.count ≤ 24 ∧
    s.mode = .emergency ∧ s.noCause = true ∧ s.busy = none ∧ s.rearmTargets = [] ∧
    s.berth.phase.isBerthed = true ∧ (∀ b ∈ s.servedBays, s.bayIs b BayState.isShut = true) ∧
    s.rearmGaps = [] ∧ (∀ b ∈ s.tableBays, (s.bay b).gap.isOpen = false) :=
  ⟨(platform .emergency .closedProving { lockedBay with gap := .passed }).finish, inv_finish rfl,
    shaped_of (by decide +kernel), accepts_of (by decide +kernel), by decide +kernel⟩

theorem test_witness_Evac_opens :
    ∃ (s : State),
    s.Inv ∧ s.Shaped ∧ s.doors.count ≤ 24 ∧ s.powered = true ∧ s.lines.evac = false ∧
    s.mode = .normal ∧ s.noCause = true ∧ s.berth.phase.evacOpens = true ∧ s.openTargets ≠ [] ∧
    s.alarms.entries.length < 48 :=
  ⟨(platform .normal .aligned lockedBay).finish, inv_finish rfl, shaped_of (by decide +kernel),
    by decide +kernel⟩

theorem test_witness_Evac_vacant :
    ∃ (s : State),
    s.Inv ∧ s.Shaped ∧ s.doors.count ≤ 24 ∧ s.powered = true ∧ s.lines.evac = false ∧
    s.mode = .normal ∧ s.noCause = true ∧ s.berth.phase.evacOpens = false :=
  ⟨rest.finish, inv_finish rfl, shaped_of (by decide +kernel), by decide +kernel⟩

theorem test_witness_Evac_commissioning :
    ∃ (s : State),
    s.Inv ∧ s.Shaped ∧ s.doors.count ≤ 24 ∧ s.powered = true ∧ s.lines.evac = false ∧
    s.mode = .commissioning ∧ s.noCause = true ∧ s.alarms.entries.length < 48 :=
  ⟨working.finish, inv_finish rfl, shaped_of (by decide +kernel), by decide +kernel⟩

theorem test_witness_Evac_emergency :
    ∃ (s : State),
    s.Inv ∧ s.Shaped ∧ s.doors.count ≤ 24 ∧ s.powered = true ∧ s.lines.evac = false ∧
    s.mode = .emergency ∧ s.berth.phase.evacOpens = true ∧ s.openTargets ≠ [] ∧
    s.alarms.entries.length < 48 :=
  ⟨{ platform .emergency .aligned lockedBay with
        emer := ⟨false, [(5, .rh)], some ⟨.normal, .aligned, none, [1, 2, 3, 4], 199⟩⟩ }.finish,
    inv_finish rfl, shaped_of (by decide +kernel), by decide +kernel⟩

theorem test_witness_Evac_configFault :
    ∃ (s : State),
    s.Inv ∧ s.Shaped ∧ s.doors.count ≤ 24 ∧ s.powered = true ∧ s.lines.evac = false ∧
    s.mode = .configFault ∧ s.alarms.entries.length < 48 :=
  ⟨(platform .configFault .vacant lockedBay).finish, inv_finish rfl,
    shaped_of (by decide +kernel), by decide +kernel⟩

theorem test_witness_Evac_released :
    ∃ (s : State),
    s.Inv ∧ s.Shaped ∧ s.doors.count ≤ 24 ∧ s.powered = true ∧ s.lines.evac = true ∧
    s.mode ≠ .startup :=
  ⟨{ platform .emergency .vacant lockedBay with
        lines := { Lines.rest with evac := true }
        emer := ⟨true, [], none⟩ }.finish, inv_finish rfl, shaped_of (by decide +kernel),
    by decide +kernel⟩

theorem test_witness_Poll :
    ∃ (s : State),
    s.Inv ∧ s.Shaped ∧ s.powered = true ∧ s.bus.awaiting = none ∧ s.bus.nextPollAt ≤ s.now :=
  ⟨rest.finish, inv_finish rfl, shaped_of (by decide +kernel), by decide +kernel⟩

theorem test_witness_MissedReply :
    ∃ (s : State),
    s.Inv ∧ s.Shaped ∧ s.powered = true ∧ s.bus.awaiting = some 1 ∧ (s.bay 1).missed < 2 ∧
    s.alarms.entries.length < 48 :=
  ⟨(awaiting { lockedBay with missed := 1 } .vacant).finish, inv_finish rfl,
    shaped_of (by decide +kernel), by decide +kernel⟩

theorem test_witness_ThirdMissedReply :
    ∃ (s : State),
    s.Inv ∧ s.Shaped ∧ s.powered = true ∧ s.bus.awaiting = some 1 ∧ (s.bay 1).missed = 2 ∧
    s.alarms.entries.length < 48 :=
  ⟨(awaiting { lockedBay with missed := 2 } .vacant).finish, inv_finish rfl,
    shaped_of (by decide +kernel), by decide +kernel⟩

theorem test_witness_Reply_locks :
    ∃ (s : State) (r : NodeReply),
    s.Inv ∧ s.Shaped ∧ s.powered = true ∧ s.mode ≠ .startup ∧ s.bus.awaiting = some r.bay ∧
    s.inTable r.bay = true ∧ r.bay ≤ 24 ∧ r.releases = false ∧ r.iso = false ∧
    (s.bay r.bay).state = some (.closing .normal) ∧ r.cls = .provenLocked :=
  ⟨(awaiting { lockedBay with state := some (.closing .normal) } .closing).finish, okReply,
    inv_finish rfl, shaped_of (by decide +kernel), by decide +kernel⟩

theorem test_witness_Reply_unexpected :
    ∃ (s : State) (r : NodeReply),
    s.Inv ∧ s.Shaped ∧ s.powered = true ∧ s.mode ≠ .startup ∧ s.bus.awaiting = some r.bay ∧
    s.inTable r.bay = true ∧ r.bay ≤ 24 ∧ r.releases = false ∧ r.iso = false ∧
    (s.bay r.bay).state = some .locked ∧ r.cls ≠ .provenLocked ∧ s.alarms.entries.length < 48 :=
  ⟨(awaiting lockedBay .vacant).finish, { okReply with lk1 := false }, inv_finish rfl,
    shaped_of (by decide +kernel), by decide +kernel⟩

theorem test_witness_Reply_opens :
    ∃ (s : State) (r : NodeReply),
    s.Inv ∧ s.Shaped ∧ s.powered = true ∧ s.mode ≠ .startup ∧ s.bus.awaiting = some r.bay ∧
    s.inTable r.bay = true ∧ r.bay ≤ 24 ∧ r.releases = false ∧ r.iso = false ∧
    (s.bay r.bay).state = some .opening ∧ r.event = .reachedOpen ∧
    (s.bay r.bay).lastEvent ≠ some r.eventNo :=
  ⟨(awaiting { lockedBay with state := some .opening } .opening).finish,
    { okReply with event := .reachedOpen }, inv_finish rfl, shaped_of (by decide +kernel),
    by decide +kernel⟩

theorem test_witness_Reply_openingBlocked :
    ∃ (s : State) (r : NodeReply),
    s.Inv ∧ s.Shaped ∧ s.powered = true ∧ s.mode ≠ .startup ∧ s.bus.awaiting = some r.bay ∧
    s.inTable r.bay = true ∧ r.bay ≤ 24 ∧ r.releases = false ∧ r.iso = false ∧
    (s.bay r.bay).state = some .opening ∧ r.event = .obstructedOpening ∧
    (s.bay r.bay).lastEvent ≠ some r.eventNo :=
  ⟨(awaiting { lockedBay with state := some .opening } .opening).finish,
    { okReply with lk1 := false, lk2 := false, event := .obstructedOpening }, inv_finish rfl,
    shaped_of (by decide +kernel), by decide +kernel⟩

theorem test_witness_Reply_reopeningBlocked :
    ∃ (s : State) (r : NodeReply) (held : Bool),
    s.Inv ∧ s.Shaped ∧ s.powered = true ∧ s.mode ≠ .startup ∧ s.bus.awaiting = some r.bay ∧
    s.inTable r.bay = true ∧ r.bay ≤ 24 ∧ r.releases = false ∧ r.iso = false ∧
    (s.bay r.bay).state = some (.reopening .full held) ∧ held = true ∧
    r.event = .obstructedOpening ∧ (s.bay r.bay).lastEvent ≠ some r.eventNo :=
  ⟨(awaiting { lockedBay with state := some (.reopening .full true) } .closing).finish,
    { okReply with lk1 := false, lk2 := false, event := .obstructedOpening }, true, inv_finish rfl,
    shaped_of (by decide +kernel), by decide +kernel⟩

theorem test_witness_Reply_reopens_full :
    ∃ (s : State) (r : NodeReply),
    s.Inv ∧ s.Shaped ∧ s.powered = true ∧ s.mode ≠ .startup ∧ s.bus.awaiting = some r.bay ∧
    s.inTable r.bay = true ∧ r.bay ≤ 24 ∧ r.releases = false ∧ r.iso = false ∧
    (s.bay r.bay).state = some (.closing .nudge) ∧ r.cls ≠ .provenLocked ∧
    r.event = .obstructedClosing ∧ (s.bay r.bay).lastEvent ≠ some r.eventNo ∧
    s.isServed r.bay = true ∧ s.berth.phase = .closing :=
  ⟨(awaiting { lockedBay with state := some (.closing .nudge) } .closing).finish,
    { okReply with
        lc := false
        lk1 := false
        lk2 := false
        leaf := 40
        event := .obstructedClosing }, inv_finish rfl, shaped_of (by decide +kernel),
    by decide +kernel⟩

theorem test_witness_Reply_reopens_standing :
    ∃ (s : State) (r : NodeReply),
    s.Inv ∧ s.Shaped ∧ s.powered = true ∧ s.mode ≠ .startup ∧ s.bus.awaiting = some r.bay ∧
    s.inTable r.bay = true ∧ r.bay ≤ 24 ∧ r.releases = false ∧ r.iso = false ∧
    (s.bay r.bay).state = some (.closing .nudge) ∧ r.cls ≠ .provenLocked ∧
    r.event = .obstructedClosing ∧ (s.bay r.bay).lastEvent ≠ some r.eventNo ∧
    s.isServed r.bay = true ∧ s.berth.phase = .arriving :=
  ⟨(awaiting { lockedBay with state := some (.closing .nudge) } .arriving).finish,
    { okReply with
        lc := false
        lk1 := false
        lk2 := false
        leaf := 40
        event := .obstructedClosing }, inv_finish rfl, shaped_of (by decide +kernel),
    by decide +kernel⟩

theorem test_witness_Reply_doorwayClears :
    ∃ (s : State) (r : NodeReply),
    s.Inv ∧ s.Shaped ∧ s.powered = true ∧ s.mode ≠ .startup ∧ s.bus.awaiting = some r.bay ∧
    s.inTable r.bay = true ∧ r.bay ≤ 24 ∧ r.releases = false ∧ r.iso = false ∧
    (s.bay r.bay).state = some .closeWait ∧ r.presence = false :=
  ⟨(awaiting { lockedBay with state := some .closeWait, presence := true } .closing).finish,
    { okReply with lc := false, lk1 := false, lk2 := false, leaf := 100 }, inv_finish rfl,
    shaped_of (by decide +kernel), by decide +kernel⟩

theorem test_witness_Reply_completes_unlock :
    ∃ (s : State) (r : NodeReply),
    s.Inv ∧ s.Shaped ∧ s.powered = true ∧ s.mode ≠ .startup ∧ s.bus.awaiting = some r.bay ∧
    s.inTable r.bay = true ∧ r.bay ≤ 24 ∧ r.releases = false ∧ r.iso = false ∧
    (s.bay r.bay).state = some .test ∧
    (s.bay r.bay).step = some ⟨.locked, some (.unlock, 199000), none⟩ ∧ r.cls = .closedUnlocked :=
  ⟨(stepping .locked .unlock).finish, { okReply with lk1 := false, lk2 := false }, inv_finish rfl,
    shaped_of (by decide +kernel), by decide +kernel⟩

theorem test_witness_Reply_completes_opening :
    ∃ (s : State) (r : NodeReply),
    s.Inv ∧ s.Shaped ∧ s.powered = true ∧ s.mode ≠ .startup ∧ s.bus.awaiting = some r.bay ∧
    s.inTable r.bay = true ∧ r.bay ≤ 24 ∧ r.releases = false ∧ r.iso = false ∧
    (s.bay r.bay).state = some .test ∧
    (s.bay r.bay).step = some ⟨.unlocked, some (.opening, 199000), none⟩ ∧
    (r.event = .reachedOpen ∧ (s.bay r.bay).lastEvent ≠ some r.eventNo) :=
  ⟨(stepping .unlocked .opening).finish,
    { okReply with lc := false, lk1 := false, lk2 := false, leaf := 100, event := .reachedOpen },
    inv_finish rfl, shaped_of (by decide +kernel), by decide +kernel⟩

theorem test_witness_Reply_completes_closing :
    ∃ (s : State) (r : NodeReply),
    s.Inv ∧ s.Shaped ∧ s.powered = true ∧ s.mode ≠ .startup ∧ s.bus.awaiting = some r.bay ∧
    s.inTable r.bay = true ∧ r.bay ≤ 24 ∧ r.releases = false ∧ r.iso = false ∧
    (s.bay r.bay).state = some .test ∧
    (s.bay r.bay).step = some ⟨.opened, some (.closing, 199000), none⟩ ∧
    (r.cls = .closedUnlocked ∧ r.leaf = 0) :=
  ⟨(stepping .opened .closing).finish, { okReply with lk1 := false, lk2 := false },
    inv_finish rfl, shaped_of (by decide +kernel), by decide +kernel⟩

theorem test_witness_Reply_completes_locking :
    ∃ (s : State) (r : NodeReply),
    s.Inv ∧ s.Shaped ∧ s.powered = true ∧ s.mode ≠ .startup ∧ s.bus.awaiting = some r.bay ∧
    s.inTable r.bay = true ∧ r.bay ≤ 24 ∧ r.releases = false ∧ r.iso = false ∧
    (s.bay r.bay).state = some .test ∧
    (s.bay r.bay).step = some ⟨.closed, some (.locking, 199000), none⟩ ∧ r.cls = .provenLocked :=
  ⟨(stepping .closed .locking).finish, okReply, inv_finish rfl, shaped_of (by decide +kernel),
    by decide +kernel⟩

theorem test_witness_Reply_returns_locked :
    ∃ (s : State) (r : NodeReply),
    s.Inv ∧ s.Shaped ∧ s.powered = true ∧ s.mode ≠ .startup ∧ s.bus.awaiting = some r.bay ∧
    s.inTable r.bay = true ∧ r.bay ≤ 24 ∧ r.releases = false ∧ r.iso = false ∧
    (s.bay r.bay).lost = true ∧ (s.bay r.bay).state = some (.fault .nodeLost) ∧
    r.cls = .provenLocked :=
  ⟨(awaiting
        { lockedBay with state := some (.fault .nodeLost), cls := .unknown, lost := true, missed := 3 } .vacant).finish,
    okReply, inv_finish rfl, shaped_of (by decide +kernel), by decide +kernel⟩

theorem test_witness_Reply_returns_unlocked :
    ∃ (s : State) (r : NodeReply),
    s.Inv ∧ s.Shaped ∧ s.powered = true ∧ s.mode ≠ .startup ∧ s.bus.awaiting = some r.bay ∧
    s.inTable r.bay = true ∧ r.bay ≤ 24 ∧ r.releases = false ∧ r.iso = false ∧
    (s.bay r.bay).lost = true ∧ (s.bay r.bay).state = some (.fault .nodeLost) ∧
    r.cls ≠ .provenLocked :=
  ⟨(awaiting
        { lockedBay with state := some (.fault .nodeLost), cls := .unknown, lost := true, missed := 3 } .vacant).finish,
    { okReply with lk1 := false }, inv_finish rfl, shaped_of (by decide +kernel), by decide +kernel⟩

theorem test_witness_Reply_isolates_locked :
    ∃ (s : State) (r : NodeReply),
    s.Inv ∧ s.Shaped ∧ s.powered = true ∧ s.mode ≠ .startup ∧ s.bus.awaiting = some r.bay ∧
    s.inTable r.bay = true ∧ r.bay ≤ 24 ∧ r.releases = false ∧ r.iso = true ∧
    r.cls = .provenLocked ∧ (s.request r.bay).isSome = true ∧ (s.bay r.bay).state = some .locked :=
  ⟨{ requested .locked with bus := ⟨5, 2, 200002, some 1, none⟩ }.finish,
    { okReply with iso := true }, inv_finish rfl, shaped_of (by decide +kernel), by decide +kernel⟩

theorem test_witness_Reply_isolates_fault :
    ∃ (s : State) (r : NodeReply),
    s.Inv ∧ s.Shaped ∧ s.powered = true ∧ s.mode ≠ .startup ∧ s.bus.awaiting = some r.bay ∧
    s.inTable r.bay = true ∧ r.bay ≤ 24 ∧ r.releases = false ∧ r.iso = true ∧
    r.cls = .provenLocked ∧ (s.request r.bay).isSome = true ∧
    (s.bay r.bay).state = some (.fault .discrepant) :=
  ⟨{ requested (.fault .discrepant) with bus := ⟨5, 2, 200002, some 1, none⟩ }.finish,
    { okReply with iso := true }, inv_finish rfl, shaped_of (by decide +kernel), by decide +kernel⟩

theorem test_witness_Reply_releases :
    ∃ (s : State) (r : NodeReply),
    s.Inv ∧ s.Shaped ∧ s.powered = true ∧ s.mode ≠ .startup ∧ s.bus.awaiting = some r.bay ∧
    s.inTable r.bay = true ∧ r.bay ≤ 24 ∧ r.releases = true ∧ (s.bay r.bay).state ≠ some .released ∧
    s.noCause = true ∧ s.mode ≠ .configFault :=
  ⟨(awaiting lockedBay .vacant).finish, { okReply with pk := true }, inv_finish rfl,
    shaped_of (by decide +kernel), by decide +kernel⟩

theorem test_witness_TestStep_first :
    ∃ (s : State),
    s.Inv ∧ s.Shaped ∧ s.Accepts (rq .station .testBayStep) .testBayStep ∧ s.mode = .commissioning ∧
    s.inTable 1 = true ∧ (s.bay 1).state = some .locked ∧ (s.bay 1).step = none :=
  ⟨(platform .commissioning .vacant lockedBay).finish, inv_finish rfl,
    shaped_of (by decide +kernel), accepts_of (by decide +kernel), by decide +kernel⟩

theorem test_witness_TestStep_next :
    ∃ (s : State),
    s.Inv ∧ s.Shaped ∧ s.Accepts (rq .station .testBayStep) .testBayStep ∧ s.mode = .commissioning ∧
    s.inTable 1 = true ∧ (s.bay 1).state = some .test ∧
    (s.bay 1).step = some ⟨.unlocked, none, some .complete⟩ :=
  ⟨(platform .commissioning .vacant
        { lockedBay with state := some .test, step := some ⟨.unlocked, none, some .complete⟩ }).finish,
    inv_finish rfl, shaped_of (by decide +kernel), accepts_of (by decide +kernel),
    by decide +kernel⟩

theorem test_witness_TestStep_limit :
    ∃ (s : State),
    s.Inv ∧ s.Shaped ∧ s.powered = true ∧
    (s.bay 1).step = some ⟨.locked, some (.unlock, 196000), none⟩ ∧
    196000 + s.stepLimit .unlock ≤ s.now :=
  ⟨(platform .commissioning .vacant
        { lockedBay with state := some .test, step := some ⟨.locked, some (.unlock, 196000), none⟩ }).finish,
    inv_finish rfl, shaped_of (by decide +kernel), by decide +kernel⟩

theorem test_witness_PresenceStuck :
    ∃ (s : State),
    s.Inv ∧ s.Shaped ∧ s.powered = true ∧ s.alarms.entries.length < 48 ∧
    s.presenceStuckDue 1 = true ∧ (s.bay 1).state = some .closeWait :=
  ⟨(platform .normal .closing
        { lockedBay with state := some .closeWait, presence := true, presenceSince := 140000 }).finish,
    inv_finish rfl, shaped_of (by decide +kernel), by decide +kernel⟩

theorem test_witness_GapPasses :
    ∃ (s : State),
    s.Inv ∧ s.Shaped ∧ s.powered = true ∧ s.alarms.entries.length < 48 ∧ s.gapPassDue 1 = true ∧
    (s.bay 1).gap = .failed :=
  ⟨(platform .normal .closedProving
        { lockedBay with gap := .failed, zoneSince := 199500 }).finish, inv_finish rfl,
    shaped_of (by decide +kernel), by decide +kernel⟩

theorem test_witness_GapFails :
    ∃ (s : State),
    s.Inv ∧ s.Shaped ∧ s.powered = true ∧ s.alarms.entries.length < 48 ∧ s.gapFailDue 1 = true :=
  ⟨(platform .normal .closedProving
        { lockedBay with gap := .pending, gapFrom := some 199800, zone := true }).finish,
    inv_finish rfl, shaped_of (by decide +kernel), by decide +kernel⟩

theorem test_witness_TrackIntrusion :
    ∃ (s : State),
    s.Inv ∧ s.Shaped ∧ s.powered = true ∧ s.intrusionDue 1 = true :=
  ⟨{ platform .normal .vacant { lockedBay with
        zone := true } with sense := ⟨.clear, some 199700, none⟩ }.finish, inv_finish rfl,
    shaped_of (by decide +kernel), by decide +kernel⟩

theorem test_witness_IntrusionClear :
    ∃ (s : State),
    s.Inv ∧ s.Shaped ∧ s.powered = true ∧ s.intrusionClearDue = true :=
  ⟨{ rest with sense := ⟨.active, some 198000, some 1⟩ }.finish, inv_finish rfl,
    shaped_of (by decide +kernel), by decide +kernel⟩

theorem test_witness_TrainLoss :
    ∃ (s : State),
    s.Inv ∧ s.Shaped ∧ s.doors.count ≤ 24 ∧ s.powered = true ∧ s.trainLossDue = true ∧
    s.lossConcerns = false :=
  ⟨{ rest with link := ⟨none, true, 200000, none, 0, false⟩ }.finish, inv_finish rfl,
    shaped_of (by decide +kernel), by decide +kernel⟩

theorem test_witness_TrainLoss_closes :
    ∃ (s : State),
    s.Inv ∧ s.Shaped ∧ s.doors.count ≤ 24 ∧ s.powered = true ∧ s.trainLossDue = true ∧
    s.lossConcerns = true ∧ s.mode = .normal ∧ s.closeBusy = false ∧ s.linklossTargets ≠ [] ∧
    s.alarms.entries.length < 48 :=
  ⟨lossOpen.finish, inv_finish rfl, shaped_of (by decide +kernel), by decide +kernel⟩

theorem test_witness_NoticeInterval_pending :
    ∃ (s : State),
    s.Inv ∧ s.Shaped ∧ s.doors.count ≤ 24 ∧ s.powered = true ∧
    s.intervalOver .train .phase = some ⟨some 200000, some (.phase .opened), 2⟩ :=
  ⟨(folded (some (.phase .opened)) 2).finish, inv_finish rfl, shaped_of (by decide +kernel),
    by decide +kernel⟩

theorem test_witness_NoticeInterval_idle :
    ∃ (s : State),
    s.Inv ∧ s.Shaped ∧ s.doors.count ≤ 24 ∧ s.powered = true ∧
    s.intervalOver .train .phase = some ⟨some 200000, none, 0⟩ :=
  ⟨(folded none 0).finish, inv_finish rfl, shaped_of (by decide +kernel), by decide +kernel⟩

theorem test_witness_Outbox :
    ({ rest.send with outbox := List.replicate 15 ⟨.phase, 0, .phase .opened⟩ } : SendState).outbox.length < 16 ∧
    ({ rest.send with outbox := List.replicate 16 ⟨.phase, 0, .phase .opened⟩ } : SendState).outbox.length = 16 :=
  by decide +kernel

theorem test_witness_OutputFault :
    ∃ (s : State),
    s.Inv ∧ s.powered = true ∧ s.outputFaultDue .a = true :=
  ⟨{ platform .normal .opened { lockedBay with
        state := some .opened } with lines := { Lines.rest with readbackA := true }, secure := ⟨false, .modeOnly, 0, false, false, some 199900, none, false, false⟩ }.finish,
    inv_finish rfl, by decide +kernel⟩

theorem test_witness_OutputFault_both :
    ∃ (s : State),
    s.Inv ∧ s.powered = true ∧ s.outputFaultDue .a = true ∧
    s.outputFaultDue (otherChannel .a) = true :=
  ⟨{ rest with
        secure := ⟨true, ⟨false, false, false, false, false, false⟩, 190, true, true, some 199900, some 199900, false, false⟩ }.finish,
    inv_finish rfl, by decide +kernel⟩

theorem test_witness_AckNext :
    ∃ (s : State) (e : AlarmEntry),
    s.Inv ∧ s.Accepts (rq .station .ackNext) .ackNext ∧ s.alarms.entries = [alarm true] ++ e :: [] ∧
    (∀ x ∈ [alarm true], x.acked = true) ∧ e.acked = false ∧ e.kind ≠ .trackIntrusion :=
  ⟨{ rest with alarms := ⟨[alarm true, alarm false], false⟩ }.finish, alarm false, inv_finish rfl,
    accepts_of (by decide +kernel), by decide +kernel⟩

theorem test_witness_AckNext_none :
    ∃ (s : State),
    s.Inv ∧ s.Accepts (rq .station .ackNext) .ackNext ∧ (∀ e ∈ s.alarms.entries, e.acked = true) :=
  ⟨{ rest with alarms := ⟨[alarm true], false⟩ }.finish, inv_finish rfl,
    accepts_of (by decide +kernel), by decide +kernel⟩

theorem test_witness_AckNext_frozen :
    ∃ (s : State) (e : AlarmEntry),
    s.Inv ∧ s.Accepts (rq .station .ackNext) .ackNext ∧ s.alarms.entries = [alarm true] ++ e :: [] ∧
    (∀ x ∈ [alarm true], x.acked = true) ∧ e.acked = false ∧ e.kind = .trackIntrusion ∧
    s.sense.intrusion = .frozen ∧ s.berth.phase = .vacant :=
  ⟨{ rest with
        alarms := ⟨[alarm true, intruder], false⟩
        sense := ⟨.frozen, none, some 3⟩ }.finish, intruder, inv_finish rfl,
    accepts_of (by decide +kernel), by decide +kernel⟩

theorem test_witness_PurgeAlarms :
    ∃ (s : State),
    s.Inv ∧ s.Accepts (rq .station .purgeAlarms) .purgeAlarms ∧ s.sense.intrusion ≠ .frozen :=
  ⟨{ rest with alarms := ⟨List.replicate 48 (alarm true), true⟩ }.finish, inv_finish rfl,
    accepts_of (by decide +kernel), by decide +kernel⟩

theorem test_witness_PurgeAlarms_frozen :
    ∃ (s : State),
    s.Inv ∧ s.Accepts (rq .station .purgeAlarms) .purgeAlarms ∧ s.sense.intrusion = .frozen ∧
    (∀ e ∈ s.alarms.entries, e.acked = true) :=
  ⟨{ rest with
        alarms := ⟨[alarm true, { intruder with acked := true }], false⟩
        sense := ⟨.frozen, none, some 3⟩ }.finish, inv_finish rfl, accepts_of (by decide +kernel),
    by decide +kernel⟩

theorem test_witness_SetNoticeMask :
    ∃ (s : State),
    s.Inv ∧ s.Accepts (rq .station .setNoticeMask) .setNoticeMask ∧
    ClassSet.ofByte 0x7F#8 = some .stationDefault ∧
    ClassSet.ofByte 0x7D#8 = some { ClassSet.stationDefault with phase := false } ∧
    s.send.station.mask.phase = true ∧ (0x80#8 : Byte).getLsbD 7 = true :=
  ⟨rest.finish, inv_finish rfl, accepts_of (by decide +kernel), by decide +kernel⟩

theorem test_witness_EnterCommissioning :
    rest.finish.Inv ∧ rest.finish.Accepts (rq .station .enterCommissioning) .enterCommissioning ∧
    rest.finish.mode = .normal ∧ rest.finish.berth.phase = .vacant ∧
    (∀ b, rest.finish.inTable b = true → rest.finish.bayIs b BayState.isShut = true) ∧
    rest.finish.busy = none :=
  ⟨inv_finish rfl, accepts_of (by decide +kernel), by decide +kernel, by decide +kernel, fun b h => by
    simp only [State.inTable, decide_eq_true_eq] at h
    have n : rest.finish.doors.count = 5 := by decide +kernel
    obtain ⟨k, rfl⟩ : ∃ k, b = k + 1 := ⟨b - 1, by omega⟩
    have key : ∀ k < 5, rest.finish.bayIs (k + 1) BayState.isShut = true := by decide +kernel
    exact key k (by omega), by decide +kernel⟩

theorem test_witness_EnterCommissioning_configFault :
    ∃ (s : State),
    s.Inv ∧ s.Accepts (rq .station .enterCommissioning) .enterCommissioning ∧
    s.mode = .configFault ∧ s.noCause = true :=
  ⟨(platform .configFault .vacant lockedBay).finish, inv_finish rfl,
    accepts_of (by decide +kernel), by decide +kernel⟩

theorem test_witness_WriteGeometry :
    ∃ (s : State) (w : Content),
    s.Inv ∧ s.Accepts (rq .station .writeGeometry) .writeGeometry ∧ s.mode = .commissioning ∧
    s.store.commit = .idle ∧ s.store.working = some w ∧
    (writeGeometry ⟨.named .beam, 15, 2001, 0, 0, .outside⟩ w).isSome = true ∧
    writeGeometry ⟨.named .beam, 16, 0, 0, 0, .outside⟩ w = none :=
  ⟨working.finish, content, inv_finish rfl, accepts_of (by decide +kernel), by decide +kernel⟩

theorem test_witness_WriteProfile :
    ∃ (s : State) (w : Content),
    s.Inv ∧ s.Accepts (rq .station .writeProfile) .writeProfile ∧ s.mode = .commissioning ∧
    s.store.commit = .idle ∧ s.store.working = some w ∧
    (writeProfile ⟨7, 0, 33, 0, 0⟩ w).isSome = true ∧
    (writeProfile ⟨0, 32, 0, 0, 0⟩ w).isSome = true ∧ writeProfile ⟨0, 33, 0, 0, 0⟩ w = none :=
  ⟨working.finish, content, inv_finish rfl, accepts_of (by decide +kernel), by decide +kernel⟩

theorem test_witness_WriteParameters :
    ∃ (s : State) (w : Content),
    s.Inv ∧ s.mode = .commissioning ∧ s.store.commit = .idle ∧ s.store.working = some w ∧
    s.powered = true ∧ s.otherAddress ⟨.station, 0, 7, 2⟩ = false ∧
    ReqKind.writeParameters.allows (s.authorityOf .station) = true ∧
    Param.ofPosition 17 = some .queuePolicy ∧ 1 + Param.queuePolicy.bytes = 2 ∧
    writeParameters ⟨17, 2⟩ w = none ∧ (writeParameters ⟨17, 1⟩ w).isSome = true ∧
    Param.ofPosition 19 = none ∧ writeParameters ⟨19, 2⟩ w = none :=
  ⟨working.finish, content, inv_finish rfl, by decide +kernel⟩

theorem test_witness_Commit :
    ∃ (s : State) (w : Content),
    s.Inv ∧ s.Accepts (rq .station .commit) .commit ∧ s.mode = .commissioning ∧
    s.store.commit = .idle ∧ s.store.working = some w ∧ firstViolation w = none ∧
    (s.isolatedCount : Int) ≤ w.param .isolationLimit ∧ s.store.writeCount < wearLimit :=
  ⟨working.finish, content, inv_finish rfl, accepts_of (by decide +kernel), by decide +kernel⟩

theorem test_witness_Commit_violation :
    ∃ (s : State) (w : Content),
    s.Inv ∧ s.Accepts (rq .station .commit) .commit ∧ s.mode = .commissioning ∧
    s.store.commit = .idle ∧ s.store.working = some w ∧
    firstViolation w = some ⟨.bayCount, .geometry, none, none⟩ :=
  ⟨{ working with
        store := ⟨content, 0#16, 3, some deliveredContent, .idle, some content, none⟩ }.finish,
    deliveredContent, inv_finish rfl, accepts_of (by decide +kernel), by decide +kernel⟩

theorem test_witness_CommitAndExit :
    ∃ (s : State) (w : Content),
    s.Inv ∧ s.Accepts (rq .station .commitAndExit) .commitAndExit ∧ s.mode = .commissioning ∧
    s.store.commit = .idle ∧ s.store.working = some w ∧ s.testBayAstray = false ∧
    firstViolation w = none ∧ (s.isolatedCount : Int) ≤ w.param .isolationLimit ∧
    s.store.writeCount < wearLimit :=
  ⟨working.finish, content, inv_finish rfl, accepts_of (by decide +kernel), by decide +kernel⟩

theorem test_witness_WriteValues :
    (⟨.outside, 1, 0, 0, 0, .outside⟩ : GeometryFields).item = .outside ∧
    writeGeometry ⟨.named .bay, 24, -250001, 1199, 4, .named .close⟩ deliveredContent =
      some ({ deliveredContent with bays := deliveredContent.bays.set 23 ⟨-250000, 1200, 3, 1⟩ }, true) ∧
    writeGeometry ⟨.named .bay, 1, 0, 3000, 0, .named .hold⟩ deliveredContent =
      some ({ deliveredContent with bays := deliveredContent.bays.set 0 ⟨0, 3000, 0, 0⟩ }, false) ∧
    writeGeometry ⟨.named .bay, 25, 0, 1200, 0, .named .hold⟩ deliveredContent = none ∧
    writeGeometry ⟨.named .bayCount, 25, 0, 0, 0, .outside⟩ deliveredContent =
      some ({ deliveredContent with count := 24 }, true) ∧
    writeGeometry ⟨.named .beam, 15, -2000, 0, 0, .outside⟩ deliveredContent =
      some ({ deliveredContent with beams := deliveredContent.beams.set 15 (-2000) }, false) ∧
    writeProfile ⟨8, 0, 0, 0, 0⟩ deliveredContent = none ∧
    writeProfile ⟨0, 33, 0, 0, 0⟩ deliveredContent = none ∧
    (writeProfile ⟨7, 32, 250001, 899, 0⟩ deliveredContent).map
      (fun x => ((x.1.profile 7).door 32, x.2)) = some (⟨250000, 900⟩, true) ∧
    (writeProfile ⟨7, 0, 32, 10000, 1900⟩ deliveredContent).map
      (fun x => ((x.1.profile 7).count, (x.1.profile 7).length, (x.1.profile 7).minClear, x.2)) =
      some (32, 10000, 1900, false) ∧
    Param.ofPosition 17 = some .queuePolicy ∧ writeParameters ⟨17, 2⟩ deliveredContent = none ∧
    (writeParameters ⟨17, 1⟩ deliveredContent).map (fun x => x.1.param .queuePolicy) = some 1 ∧
    Param.ofPosition 18 = some .noticeInterval ∧
    (writeParameters ⟨18, 8388607⟩ deliveredContent).map
      (fun x => (x.1.param .noticeInterval, x.2)) = some (Param.noticeInterval.range.2, true) ∧
    writeParameters ⟨0, 0⟩ deliveredContent = none ∧ writeParameters ⟨19, 0⟩ deliveredContent = none :=
  by decide +kernel

theorem test_witness_CommitWriteEnd :
    ∃ (s : State) (w : Content),
    s.Inv ∧ s.powered = true ∧ s.store.commit = .writing 199400 false ∧ 199400 + 600 ≤ s.now ∧
    s.store.working = some w ∧ s.mode = .commissioning :=
  ⟨(writing false).finish, content, inv_finish rfl, by decide +kernel⟩

theorem test_witness_CommitWriteEnd_exit :
    ∃ (s : State) (w : Content),
    s.Inv ∧ s.powered = true ∧ s.store.commit = .writing 199400 true ∧ 199400 + 600 ≤ s.now ∧
    s.store.working = some w ∧ s.mode = .commissioning :=
  ⟨(writing true).finish, content, inv_finish rfl, by decide +kernel⟩

theorem test_witness_Restart :
    ∃ (s : State),
    s.Inv ∧ s.Accepts (rq .station .restart) .restart ∧ s.mode ≠ .startup ∧ s.isWriting = false ∧
    s.alarms.entries.length < 48 :=
  ⟨rest.finish, inv_finish rfl, accepts_of (by decide +kernel), by decide +kernel⟩

theorem test_witness_ExitCommissioning :
    ∃ (s : State),
    s.Inv ∧ s.Accepts (rq .station .exitCommissioning) .exitCommissioning ∧
    s.mode = .commissioning ∧ s.testBayAstray = false ∧ s.isWriting = false :=
  ⟨working.finish, inv_finish rfl, accepts_of (by decide +kernel), by decide +kernel⟩

theorem test_witness_PowerLoss :
    ∃ (s : State),
    s.Inv ∧ s.powered = true ∧ s.isWriting = true :=
  ⟨(writing false).finish, inv_finish rfl, by decide +kernel⟩

theorem test_witness_PowerLoss_idle :
    ∃ (s : State),
    s.Inv ∧ s.powered = true ∧ s.isWriting = false :=
  ⟨rest.finish, inv_finish rfl, by decide +kernel⟩

theorem test_witness_LoadSucceeded :
    (loading none).finish.Inv ∧ (loading none).finish.Shaped ∧ (loading none).finish.powered = true ∧
    (loading none).finish.noCause = true ∧ (loading none).finish.loadEnds = true ∧
    (loading none).finish.store.loadDetail = none ∧ (loading none).finish.store.image.count ≤ 24 ∧
    (loading none).finish.lines.evac = false ∧ ((loading none).finish.bay 1).isolation = .notIsolated ∧
    ((loading none).finish.bay 1).recon = some (.reply okReply .provenLocked) ∧
    okReply.releases = false ∧ okReply.iso = false ∧ ((loading none).finish.bay 2).recon = some .lost :=
  ⟨inv_finish rfl, shaped_of (by decide +kernel), by decide +kernel⟩

theorem test_witness_LoadSucceeded_released :
    ∃ (s : State),
    s.Inv ∧ s.Shaped ∧ s.powered = true ∧ s.noCause = true ∧ s.loadEnds = true ∧
    s.store.loadDetail = none ∧
    (s.bay 1).recon = some (.reply { okReply with rh := true } .provenLocked) ∧
    ({ okReply with rh := true } : NodeReply).releases = true :=
  ⟨(loadingWith none { okReply with rh := true }).finish, inv_finish rfl,
    shaped_of (by decide +kernel), by decide +kernel⟩

theorem test_witness_LoadFailed :
    ∃ (s : State),
    s.Inv ∧ s.Shaped ∧ s.powered = true ∧ s.noCause = true ∧ s.loadEnds = true ∧
    s.store.loadDetail = some .checksum ∧ s.bus.pollCount ≤ 24 ∧
    (s.bay 1).recon = some (.reply okReply .provenLocked) :=
  ⟨(loading (some .checksum)).finish, inv_finish rfl, shaped_of (by decide +kernel),
    by decide +kernel⟩

theorem test_witness_ReceivedFrame :
    ∃ (data : List Byte) (times : List Millis), data.length ≤ 200 ∧
      times.length = data.length + 7 ∧
      ∀ i, i + 1 < times.length → times.getD (i + 1) 0 ≤ times.getD i 0 + 5 :=
  ⟨List.replicate 200 0xA5#8, List.replicate 207 3,
    Nat.le_of_eq List.length_replicate,
    by rw [List.length_replicate, List.length_replicate], fun i h => steady 207 i h⟩

end Sys2Proof.Tests
end

section
/-!
PROOFS. Spans and overlaps (R3): the ends and length of a span, the rounding of its half width, and
when the overlap of two spans is zero; with them, the statement of alignment arithmetic that says so.
-/
namespace Sys2Proof

/-! ### Spans (R3) -/

@[simp] theorem spanOf_low (c w : Mm) : (spanOf c w).1 = c - w / 2 := rfl

@[simp] theorem spanOf_high (c w : Mm) : (spanOf c w).2 = c - w / 2 + w := rfl

theorem spanOf_length (c w : Mm) : (spanOf c w).2 - (spanOf c w).1 = w := by
  rw [spanOf_high, spanOf_low, Int.add_comm]
  exact Int.add_sub_cancel w _

/-- R3's rounding: half a width is rounded down, so that twice it misses an odd width by 1. -/
theorem halfWidth_bounds (w : Int) : 2 * (w / 2) ≤ w ∧ w ≤ 2 * (w / 2) + 1 := by omega

/-! ### Overlaps (R3) -/

theorem overlap_nonneg (s t : Span) : 0 ≤ overlap s t := Int.le_max_left _ _

theorem overlap_comm (s t : Span) : overlap s t = overlap t s := by
  rw [overlap, overlap, Int.min_comm s.2, Int.max_comm s.1]

/-- Spans that touch or stand apart: the lower high end does not pass the higher low end. -/
theorem overlap_eq_zero_of_apart {s t : Span} (h : s.2 ≤ t.1) : overlap s t = 0 := by
  have ends : min s.2 t.2 ≤ max s.1 t.1 :=
    calc min s.2 t.2 ≤ s.2 := Int.min_le_left _ _
      _ ≤ t.1 := h
      _ ≤ max s.1 t.1 := Int.le_max_right _ _
  exact Int.max_eq_left (Int.sub_nonpos_of_le ends)

/-- Settles O31: the two clauses on apart spans are one lemma, read in either order of the spans. -/
theorem spansAndOverlaps : Obligations.SpansAndOverlaps := by
  unfold Obligations.SpansAndOverlaps
  refine ⟨fun c w => ⟨rfl, spanOf_length c w, halfWidth_bounds w⟩, by decide, fun l₁ r₁ l₂ r₂ => ?_⟩
  refine ⟨rfl, overlap_nonneg _ _, fun first_below => overlap_eq_zero_of_apart first_below,
    fun second_below => ?_⟩
  rw [overlap_comm]
  exact overlap_eq_zero_of_apart second_below

end Sys2Proof
end

section
/-!
PROOFS. Requests that no train may send, decided in a settled part: a refusal leaves everything but
what is sent, and a decision that writes the berth leaves everything but the berth. With them, the
decisions of WITHDRAW_APPROACH (R24) and CONFIRM_OPEN (R35), branch by branch.
-/
namespace Sys2Proof.Machine
open Sys2Proof

/-! ### What the decisions read -/

theorem State.working_iff (s : State) :
    s.working = true ↔ s.mode = .normal ∨ s.mode = .localMode ∨ s.mode = .emergency := by
  unfold State.working
  cases s.mode <;> simp

/-- The map class of a bay is read from the alignment of the record alone. -/
theorem State.mapClass_eq (s : State) (b : Nat) :
    s.mapClass b = (s.berth.record.map (·.align)).bind fun a =>
      a.map.bind fun m => if b = 0 then none else m[b - 1]? := by
  unfold State.mapClass
  cases s.berth.record with
  | none => rfl
  | some x => cases h : x.align.map <;> simp [h]

/-- A settled state stays settled where the berth changes in neither phase nor alignment. -/
theorem State.Settled.of_berth {s : State} (h : s.Settled) {x : BerthState} (d : SendState)
    (phase : x.phase = s.berth.phase)
    (align : x.record.map (·.align) = s.berth.record.map (·.align)) :
    State.Settled { s with berth := x, send := d } :=
  have map : ∀ b, State.mapClass { s with berth := x, send := d } b = s.mapClass b := fun b => by
    rw [State.mapClass_eq, State.mapClass_eq, align]
  h.of_parts ⟨Or.inl rfl, rfl, rfl, map, rfl, rfl, rfl⟩ phase rfl rfl rfl rfl

/-! ### Requests that no train may send -/

section
variable {s : State} {r : Req} {k : ReqKind} {owner : State → Answer}

/-- Such a request is decided in the state as it stands, and a settled decision is left as it is. -/
theorem State.Accepts.request_settled (h : s.Accepts r k) (notTrain : k.allows .train = false)
    (settled : (owner s.begin_).state.Settled) :
    ∃ x : SendState, s.request_ r k owner = { (owner s.begin_).state with send := x } ∧
      s.replyFrame r k.code (owner s.begin_).result (owner s.begin_).detail ∈ x.sent := by
  obtain ⟨x, decided, replied⟩ := h.request_eq owner
  rw [h.taken_eq notTrain] at decided replied
  rw [settled.finish_eq] at decided
  exact ⟨x, decided, replied⟩

/-- A refusal changes nothing but what is sent. -/
theorem State.Accepts.request_refused (h : s.Accepts r k) (inv : s.Inv)
    (notTrain : k.allows .train = false) {x : Result}
    (refused : owner s.begin_ = s.begin_.answer x) :
    s.SameButSend (s.request_ r k owner) ∧ s.Replied (s.request_ r k owner) r k x .empty := by
  obtain ⟨d, decided, replied⟩ := h.request_settled notTrain (owner := owner)
    (by rw [refused]; exact inv.settled_begin h.powered)
  rw [refused] at decided replied
  rw [decided]
  exact ⟨⟨rfl, rfl, rfl, rfl, rfl, rfl, rfl⟩, replied⟩

/-- A request that writes the berth, its phase and alignment apart, changes nothing else. -/
theorem State.Accepts.request_writesBerth (h : s.Accepts r k) (inv : s.Inv)
    (notTrain : k.allows .train = false) {x : BerthState} {d : SendState} {y : Result}
    (written : owner s.begin_ = State.answer { s with berth := x, send := d } y)
    (phase : x.phase = s.berth.phase)
    (align : x.record.map (·.align) = s.berth.record.map (·.align)) :
    ∃ d' : SendState, s.request_ r k owner = { s with berth := x, send := d' } ∧
      s.replyFrame r k.code y .empty ∈ d'.sent := by
  obtain ⟨d', decided, replied⟩ := h.request_settled notTrain (owner := owner)
    (by rw [written]; exact (inv.settled h.powered).of_berth d phase align)
  rw [written] at decided replied
  exact ⟨d', decided, replied⟩

end

/-! ### WITHDRAW_APPROACH (R24) -/

theorem exec_withdrawApproach (r : Req) (n : Nat) (s : State) :
    exec (.withdrawApproach r n) s =
      .next (s.request_ r .withdrawApproach (State.withdrawApproach n)) := rfl

section
variable {s : State} {n : Nat}

theorem State.withdrawApproach_outOfService (h : s.working = false) :
    s.withdrawApproach n = s.answer .wrongMode := by
  simp [State.withdrawApproach, h]

theorem State.withdrawApproach_queued (h : s.working = true)
    (queued : ∃ y ∈ s.berth.queue, y.seq = n) :
    s.withdrawApproach n = State.answer (State.sendStatus { s with berth := { s.berth with
      queue := s.berth.queue.filter fun y => y.seq != n } }) .done := by
  have found : (s.berth.queue.any fun y => y.seq == n) = true := by simpa using queued
  simp [State.withdrawApproach, h, found]

theorem State.withdrawApproach_absent (h : s.working = true)
    (absent : ∀ y ∈ s.berth.queue, y.seq ≠ n) :
    s.withdrawApproach n = s.answer .notFound := by
  have unfound : (s.berth.queue.any fun y => y.seq == n) = false := by simpa using absent
  simp [State.withdrawApproach, h, unfound]

end

/-- Settles O20: the three branches of the decision, two of them refusals. The PLATFORM_STATUS of the
removal is among what is sent. -/
theorem withdrawRemovesTheRecord : Obligations.WithdrawRemovesTheRecord := by
  unfold Obligations.WithdrawRemovesTheRecord
  intro s r n inv accepted
  simp only [exec_withdrawApproach]
  refine ⟨fun idle => ⟨_, rfl, ?_⟩, fun working queued => ?_, fun working absent => ⟨_, rfl, ?_⟩⟩
  · exact accepted.request_refused inv rfl (State.withdrawApproach_outOfService (s := s.begin_) idle)
  · obtain ⟨x, decided, replied⟩ := accepted.request_writesBerth inv rfl
      (State.withdrawApproach_queued (s := s.begin_) working queued) rfl rfl
    exact ⟨x, congrArg _ decided, replied⟩
  · exact accepted.request_refused inv rfl
      (State.withdrawApproach_absent (s := s.begin_) working absent)

/-! ### CONFIRM_OPEN (R35) -/

theorem exec_confirmOpen (r : Req) (s : State) :
    exec (.confirmOpen r) s = .next (s.request_ r .confirmOpen State.confirmOpen) := rfl

section
variable {s : State} {b : Berth}

theorem State.confirmOpen_outOfService (h : s.working = false) :
    s.confirmOpen = s.answer .wrongMode := by
  simp [State.confirmOpen, h]

theorem State.confirmOpen_noTrain (h : s.working = true)
    (noTrain : s.berth.phase = .vacant ∨ s.berth.phase = .departing ∨ s.berth.record = none) :
    s.confirmOpen = s.answer .wrongPhase := by
  obtain phase | phase | record := noTrain
  · simp [State.confirmOpen, h, phase]
  · simp [State.confirmOpen, h, phase]
  · simp [State.confirmOpen, h, record]

/-- With a train at the berth the record decides: its dispute first, then its permit. -/
theorem State.confirmOpen_train (h : s.working = true) (vacant : s.berth.phase ≠ .vacant)
    (departing : s.berth.phase ≠ .departing) (record : s.berth.record = some b) :
    s.confirmOpen =
      if b.disputed then s.answer .wrongState
      else if b.permit ≠ .notGranted then s.answer .already
      else State.answer { s with berth := { s.berth with
        record := some { b with permit := .byStation } } } .done := by
  simp [State.confirmOpen, h, vacant, departing, record, State.setRecord]

end

/-- Settles O24: the decision branch by branch; the permit is no part of phase or alignment, so the
grant leaves the part settled. -/
theorem confirmOpenGrantsThePermit : Obligations.ConfirmOpenGrantsThePermit := by
  unfold Obligations.ConfirmOpenGrantsThePermit
  intro s r inv accepted
  simp only [exec_confirmOpen]
  refine ⟨fun outOfService => ⟨_, rfl, ?_⟩, fun inService => ?_⟩
  · have idle : s.working = false := by
      obtain ⟨normal, localMode, emergency⟩ := outOfService
      rw [← Bool.not_eq_true, s.working_iff]
      exact not_or.2 ⟨normal, not_or.2 ⟨localMode, emergency⟩⟩
    exact accepted.request_refused inv rfl (State.confirmOpen_outOfService (s := s.begin_) idle)
  have working : s.begin_.working = true := s.working_iff.2 inService
  refine ⟨fun noTrain => ⟨_, rfl, accepted.request_refused inv rfl
    (State.confirmOpen_noTrain working noTrain)⟩, fun b vacant departing record => ?_⟩
  have decision := State.confirmOpen_train working vacant departing record
  refine ⟨fun disputed => ⟨_, rfl, ?_⟩, fun undisputed granted => ⟨_, rfl, ?_⟩,
    fun undisputed ungranted => ?_⟩
  · rw [if_pos disputed] at decision
    exact accepted.request_refused inv rfl decision
  · rw [if_neg (Bool.eq_false_iff.1 undisputed), if_pos granted] at decision
    exact accepted.request_refused inv rfl decision
  · rw [if_neg (Bool.eq_false_iff.1 undisputed), if_neg (not_not_intro ungranted)] at decision
    obtain ⟨x, decided, replied⟩ := accepted.request_writesBerth inv rfl decision rfl
      (by rw [record]; rfl)
    exact ⟨x, congrArg _ decided, replied⟩

end Sys2Proof.Machine
end

section
/-!
PROOFS. The ends of the two spans that the bay map compares, a bay's (R5) and a door's on the
platform (R52), with the effective offset of a door in each orientation (R52).
-/
namespace Sys2Proof

/-! ### The span of a bay (R5) -/

@[simp] theorem Content.baySpan_low (c : Content) (b : Nat) :
    (c.baySpan b).1 = (c.bay b).centre - (c.bay b).width / 2 :=
  spanOf_low _ _

@[simp] theorem Content.baySpan_high (c : Content) (b : Nat) :
    (c.baySpan b).2 = (c.bay b).centre - (c.bay b).width / 2 + (c.bay b).width :=
  spanOf_high _ _

end Sys2Proof

namespace Sys2Proof.Machine
open Sys2Proof

/-! ### The effective offset and the platform span of a door (R52) -/

@[simp] theorem effectiveOffset_forward (p : Profile) (k : Nat) :
    effectiveOffset p .forward k = (p.door k).offset := rfl

@[simp] theorem effectiveOffset_reversed (p : Profile) (k : Nat) :
    effectiveOffset p .reversed k = p.length - (p.door k).offset := rfl

@[simp] theorem platformSpan_low (p : Profile) (o : Orientation) (d : Mm) (k : Nat) :
    (platformSpan p o d k).1 = d - effectiveOffset p o k - (p.door k).width / 2 :=
  spanOf_low _ _

@[simp] theorem platformSpan_high (p : Profile) (o : Orientation) (d : Mm) (k : Nat) :
    (platformSpan p o d k).2 =
      d - effectiveOffset p o k - (p.door k).width / 2 + (p.door k).width :=
  spanOf_high _ _

/-- Settles O32: the two orientations are the branches of the effective offset, and each span is known
by its two ends. -/
theorem platformSpanOfADoor : Obligations.PlatformSpanOfADoor := by
  unfold Obligations.PlatformSpanOfADoor
  intro p d k
  refine ⟨effectiveOffset_forward p k, effectiveOffset_reversed p k, fun o => ?_, fun c b => ?_⟩
  · exact Prod.ext (platformSpan_low p o d k) (platformSpan_high p o d k)
  · exact Prod.ext (c.baySpan_low b) (c.baySpan_high b)

end Sys2Proof.Machine
end

section
/-!
PROOFS. What every command and every step leaves: how a command ends (R152, assumption 6), the part
settled after it, the bounds of the two lists (R21, R164), and the number of bay records.
-/
namespace Sys2Proof.Machine
open Sys2Proof

/-! ### How a command ends -/

/-- A command is the supply going or coming, the taking of a frame, or an event after a change of the
input lines, which may be none. -/
theorem exec_ends (i : Instr) (s : State) :
    i = .powerLoss ∨ i = .powerOn ∨ (∃ r k d, exec i s = .next (s.takeFrame r k d)) ∨
      ∃ f l, exec i s = .next (State.event f { s with lines := l }) := by
  cases i
  case powerLoss => exact .inl rfl
  case powerOn => exact .inr (.inl rfl)
  case heartbeat | appendApproach | withdrawApproach | resyncQueue | isolationConcurrence
    | statusRequest | identify | stopped | moving | openRequest | openStation | closeRequest
    | closeStation | statusRead | bayRead | alarmRead | queueRead | ackNext | purgeAlarms
    | confirmOpen | retryBay | closeBay | restoreBay | probeAlignment | clearUsage | setNoticeMask
    | confirmBerth | isolateBay | deisolateBay | rearm | enterCommissioning | writeGeometry
    | writeProfile | writeParameters | commit | exitCommissioning | commitAndExit | testBayStep
    | restart | unknownRequestKind => exact .inr (.inr (.inl ⟨_, _, _, rfl⟩))
  case beamChange b v =>
    refine .inr (.inr (.inr ?_))
    unfold exec execBeamChange
    dsimp only
    split
    · exact ⟨id, s.lines, rfl⟩
    · exact ⟨_, _, rfl⟩
  case evacAsserted =>
    refine .inr (.inr (.inr ?_))
    unfold exec execEvacAsserted
    dsimp only
    split
    · exact ⟨id, s.lines, rfl⟩
    · exact ⟨_, _, rfl⟩
  case evacReleased =>
    refine .inr (.inr (.inr ?_))
    unfold exec execEvacReleased
    dsimp only
    split
    · exact ⟨_, _, rfl⟩
    · exact ⟨id, s.lines, rfl⟩
  case keyChange | addrChange | readbackChange => exact .inr (.inr (.inr ⟨_, _, rfl⟩))
  all_goals exact .inr (.inr (.inr ⟨_, s.lines, rfl⟩))

/-- Settles O1: by the definition of a step. -/
theorem stepTakesTheFrontCommand : Obligations.StepTakesTheFrontCommand := by
  unfold Obligations.StepTakesTheFrontCommand
  intro s c rest waiting
  unfold step
  rw [waiting]

theorem step_idle {s : State} (h : s.pending = []) : step s = .next s.tick := by
  unfold step
  rw [h]

/-- Settles O2: the two branches of the tick. -/
theorem idleStepLetsAMillisecondPass : Obligations.IdleStepLetsAMillisecondPass := by
  unfold Obligations.IdleStepLetsAMillisecondPass
  intro s idle
  rw [step_idle idle]
  unfold State.tick
  refine ⟨fun powered => ?_, fun unpowered => ?_⟩
  · rw [if_pos powered]
    rfl
  · rw [if_neg (Bool.eq_false_iff.1 unpowered)]

/-- Settles O3: the supply rows by definition, the others by the way a command ends. -/
theorem everyCommandGivesANextState : Obligations.EveryCommandGivesANextState := by
  unfold Obligations.EveryCommandGivesANextState
  intro i s
  obtain rfl | rfl | ⟨_, _, _, h⟩ | ⟨_, _, h⟩ := exec_ends i s
  · exact ⟨_, rfl⟩
  · exact ⟨_, rfl⟩
  · exact ⟨_, h⟩
  · exact ⟨_, h⟩

/-! ### Every command leaves a powered part settled (R38, R77, R112 to R115) -/

theorem State.event_settled {s : State} (f : State → State) (h : s.powered = true) :
    (s.event f).Settled := by
  unfold State.event
  rw [if_pos h]
  exact State.finish_settled _

theorem State.event_unpowered {s : State} (f : State → State) (h : s.powered = false) :
    s.event f = s := by
  unfold State.event
  rw [if_neg (Bool.eq_false_iff.1 h)]

theorem State.takeFrame_unpowered {s : State} (r : Req) (k : Nat) (d : State → Answer)
    (h : s.powered = false) : s.takeFrame r k d = s := by
  unfold State.takeFrame
  rw [h]
  rfl

theorem State.takeFrame_settled {s : State} (r : Req) (k : Nat) (d : State → Answer)
    (h : s.powered = true) : (s.takeFrame r k d).Settled := by
  cases ha : s.otherAddress r with
  | true =>
    unfold State.takeFrame
    rw [h, ha]
    exact State.finish_settled _
  | false =>
    obtain ⟨x, e, -⟩ := State.takeFrame_eq h ha k d
    rw [e]
    exact (State.finish_settled _).of_send x

/-- The supply, once there, stays through every command but its loss. -/
theorem closed_powered : Closed fun s => s.powered = true where
  send _ _ g := g
  bay _ _ _ g := g
  bays _ _ _ g := g
  record _ _ g := g
  phase _ _ g := g
  berth _ _ _ g := g
  queue _ _ _ g := g
  operation _ g := g
  removal _ g := g
  doors _ _ g := g
  alarm _ _ _ g := g
  cleared _ g := g
  sense _ _ g := g
  emer _ _ g := g
  mode _ _ g := g
  link _ _ g := g
  bus _ _ g := g
  secure _ _ g := g
  store _ _ g := g
  startup _ _ _ := rfl
  sending _ g := g
  lines _ g := g
  append _ _ _ _ g := g
  acked _ _ g := g
  purged g := g

/-- A powered part that has taken a command is settled. -/
theorem exec_settled {i : Instr} {s t : State} (h : exec i s = .next t) (powered : s.powered = true)
    (hi : i ≠ .powerLoss) : t.Settled := by
  obtain rfl | rfl | ⟨r, k, d, e⟩ | ⟨f, l, e⟩ := exec_ends i s
  · exact absurd rfl hi
  · cases h
    exact State.finish_settled _
  · cases e.symm.trans h
    exact State.takeFrame_settled r k d powered
  · cases e.symm.trans h
    exact State.event_settled f powered

/-- A part without supply keeps its secure state, and takes no command but POWER_ON. -/
theorem exec_unpowered {i : Instr} {s t : State} (h : exec i s = .next t)
    (unpowered : s.powered = false) (hi : i ≠ .powerOn) :
    t.powered = false ∧ t.secure = s.secure := by
  obtain rfl | rfl | ⟨r, k, d, e⟩ | ⟨f, l, e⟩ := exec_ends i s
  · simp only [exec, execPowerLoss, unpowered, Bool.false_eq_true, if_false] at h
    cases h
    exact ⟨unpowered, rfl⟩
  · exact absurd rfl hi
  · rw [State.takeFrame_unpowered r k d unpowered] at e
    cases e.symm.trans h
    exact ⟨unpowered, rfl⟩
  · rw [State.event_unpowered f (by exact unpowered)] at e
    cases e.symm.trans h
    exact ⟨unpowered, rfl⟩

theorem exec_inv {i : Instr} {s t : State} (inv : s.Inv) (h : exec i s = .next t) : t.Inv := by
  cases powered : s.powered with
  | true =>
    by_cases loss : i = .powerLoss
    · subst loss
      simp only [exec, execPowerLoss, powered, if_true] at h
      cases h
      exact ⟨fun on => Bool.noConfusion on, fun _ => ⟨rfl, rfl⟩⟩
    · have on : t.powered = true := closed_powered.exec (fun e => absurd e loss) powered h
      exact ⟨fun _ => exec_settled h powered loss, fun off => by rw [on] at off; cases off⟩
  | false =>
    by_cases power : i = .powerOn
    · subst power
      have on : t.powered = true := by
        cases h
        exact closed_powered.toStable.finish trivial
          (closed_powered.toStable.enterStartup (W := Touch.all) (s := State.begin_ { s with powered := true })
            .power trivial rfl)
      cases h
      exact ⟨fun _ => State.finish_settled _, fun off => by rw [on] at off; cases off⟩
    · obtain ⟨off, secure⟩ := exec_unpowered h powered power
      exact ⟨fun on => by simp [off] at on, fun _ => secure ▸ inv.unpowered powered⟩

/-- The passing of time bears on no judgement. -/
theorem State.Inv.later {s : State} (inv : s.Inv) (n : Millis) (d : SendState) (q : List Instr) :
    State.Inv { s with now := n, send := d, pending := q } :=
  ⟨fun on => (inv.settled on).of_parts ⟨.inl rfl, rfl, rfl, fun _ => rfl, rfl, rfl, rfl⟩ rfl rfl rfl rfl
    rfl, inv.unpowered⟩

/-- A property that every command keeps, and that neither the time, the frames sent nor the queue of
commands bears on, is kept by every step. -/
theorem step_keeps {P : State → Prop}
    (free : ∀ (s : State) n d q, P s → P { s with now := n, send := d, pending := q })
    (command : ∀ {i : Instr} {s t : State}, P s → exec i s = .next t → P t) {s t : State} (hs : P s)
    (h : step s = .next t) : P t := by
  unfold step at h
  split at h
  · exact command (free s s.now s.send _ hs) h
  · cases h
    unfold State.tick
    split
    · exact free s _ _ _ hs
    · exact hs

/-- Settles O6: every command ends by forming what the invariant says, and time bears on none of it. -/
theorem everyStepKeepsTheInvariant : Obligations.EveryStepKeepsTheInvariant := by
  unfold Obligations.EveryStepKeepsTheInvariant
  exact fun s t inv h => step_keeps (fun _ n d q g => g.later n d q) exec_inv inv h

/-! ### The edge and the drives (R112, R114) -/

theorem mem_upTo {b n : Nat} : b ∈ upTo n ↔ 1 ≤ b ∧ b ≤ n := by
  unfold upTo
  simp only [List.mem_map, List.mem_range]
  constructor
  · rintro ⟨a, _, rfl⟩
    omega
  · exact fun h => ⟨b - 1, by omega, by omega⟩

theorem State.mem_tableBays {s : State} {b : Nat} : b ∈ s.tableBays ↔ s.inTable b = true := by
  unfold State.tableBays State.inTable
  rw [mem_upTo, decide_eq_true_iff]

theorem State.someBayNotLocked_eq_false {s : State} :
    s.someBayNotLocked = false ↔ ∀ b, s.inTable b = true → s.bayIs b BayState.isShut = true := by
  simp [State.someBayNotLocked, List.any_eq_false, State.mem_tableBays]

theorem State.someGapOpen_eq_false {s : State} :
    s.someGapOpen = false ↔ ∀ b, s.inTable b = true → (s.bay b).gap.isOpen = false := by
  simp [State.someGapOpen, List.any_eq_false, State.mem_tableBays]

/-- Outside STARTUP the mode withholds secure unless it is NORMAL or LOCAL, and the other reasons are
those of the state. -/
theorem State.judge_running {s : State} (h : s.mode ≠ .startup) :
    s.judge = ⟨decide (s.mode ≠ .normal ∧ s.mode ≠ .localMode), s.someBayNotLocked, s.someGapOpen,
      decide (s.sense.intrusion ≠ .clear), !s.noCause, s.secure.latched⟩ := by
  unfold State.judge
  split
  · exact absurd ‹_› h
  all_goals rfl

theorem State.judge_startup {s : State} (h : s.mode = .startup) :
    s.judge = { Reasons.modeOnly with outputFault := s.secure.latched } := by
  unfold State.judge
  rw [h]

/-- No reason is withheld exactly where the edge is secure. -/
theorem State.judge_isEmpty_iff (s : State) : s.judge.isEmpty = true ↔ s.EdgeSecure := by
  by_cases startup : s.mode = .startup
  · rw [State.judge_startup startup]
    refine ⟨fun h => Bool.noConfusion h, fun h => ?_⟩
    obtain m | m := h.mode <;> rw [startup] at m <;> cases m
  · rw [State.judge_running startup]
    have mode : (s.mode ≠ .normal ∧ s.mode ≠ .localMode) ↔ ¬(s.mode = .normal ∨ s.mode = .localMode) :=
      not_or.symm
    simp only [Reasons.isEmpty, Bool.and_eq_true, Bool.not_eq_true', decide_eq_false_iff_not, mode,
      Classical.not_not, State.someBayNotLocked_eq_false, State.someGapOpen_eq_false, Bool.not_eq_false']
    exact ⟨fun ⟨⟨⟨⟨⟨m, b⟩, g⟩, i⟩, c⟩, l⟩ => ⟨m, b, g, i, c, l⟩,
      fun ⟨m, b, g, i, c, l⟩ => ⟨⟨⟨⟨⟨m, b⟩, g⟩, i⟩, c⟩, l⟩⟩

/-- A settled part is asserted exactly where its edge is secure. -/
theorem State.Settled.asserted_iff {s : State} (h : s.Settled) :
    s.secure.asserted = true ↔ s.EdgeSecure := by
  rw [h.asserted, h.reasons, s.judge_isEmpty_iff]

/-- Settles O7: both drives are what the assertion is, and that is the judgement of the edge. -/
theorem drivesFollowTheEdge : Obligations.DrivesFollowTheEdge := by
  unfold Obligations.DrivesFollowTheEdge
  intro s inv
  cases powered : s.powered with
  | true =>
    have settled := inv.settled powered
    rw [settled.driveA, settled.driveB, settled.asserted_iff]
    simp
  | false =>
    obtain ⟨a, b⟩ := inv.unpowered powered
    simp [a, b]

/-! ### The Alarm List (R164) -/

/-- A change of entries that keeps their kind, bay and acknowledgement keeps the list sound. -/
theorem AlarmState.Sound.map {a : AlarmState} (h : a.Sound) (f : AlarmEntry → AlarmEntry)
    (same : ∀ e, (f e).kind = e.kind ∧ (f e).bay = e.bay ∧ (f e).acked = e.acked) (o : Bool) :
    AlarmState.Sound ⟨a.entries.map f, o⟩ := by
  refine ⟨by simpa using h.room, ?_⟩
  have acked : (fun e : AlarmEntry => !e.acked) ∘ f = fun e => !e.acked := by
    funext e
    simp [(same e).2.2]
  rw [List.filter_map, acked, List.pairwise_map]
  refine h.unique.imp fun {x y} apart => ?_
  rwa [(same x).1, (same y).1, (same x).2.1, (same y).2.1]

theorem AlarmState.Sound.sublist {a : AlarmState} (h : a.Sound) {es : List AlarmEntry}
    (sub : es.Sublist a.entries) (o : Bool) : AlarmState.Sound ⟨es, o⟩ :=
  ⟨Nat.le_trans sub.length_le h.room, h.unique.sublist (sub.filter _)⟩

theorem AlarmState.Sound.clear {a : AlarmState} (h : a.Sound) (p : AlarmEntry → Bool) :
    (a.clear p).Sound :=
  h.map _ (fun e => by split <;> exact ⟨rfl, rfl, rfl⟩) _

theorem dropFirst_sublist (p : AlarmEntry → Bool) (es : List AlarmEntry) :
    (dropFirst p es).Sublist es := by
  induction es with
  | nil => exact List.Sublist.refl _
  | cons e es ih =>
    unfold dropFirst
    split
    · exact List.sublist_cons_self e es
    · exact ih.cons_cons e

/-- An entry that satisfies the predicate makes the list one shorter. -/
theorem dropFirst_length {p : AlarmEntry → Bool} {es : List AlarmEntry} (h : es.any p = true) :
    (dropFirst p es).length + 1 = es.length := by
  induction es with
  | nil => cases h
  | cons e es ih =>
    unfold dropFirst
    split
    · rfl
    · rename_i hp
      rw [List.any_cons, Bool.or_eq_true] at h
      simp [ih (h.resolve_left hp)]

/-- The list with room is part of the list, and has room (R167). -/
theorem makeRoom_sublist {es x : List AlarmEntry} (h : makeRoom es = some x)
    (bound : es.length ≤ alarmLimit) : x.Sublist es ∧ x.length < alarmLimit := by
  unfold makeRoom at h
  split at h
  · cases h
    exact ⟨List.Sublist.refl _, ‹_›⟩
  · split at h
    · rename_i found
      cases h
      exact ⟨dropFirst_sublist _ _, by have := dropFirst_length found; omega⟩
    · split at h
      · rename_i found
        cases h
        exact ⟨dropFirst_sublist _ _, by have := dropFirst_length found; omega⟩
      · cases h

theorem AlarmState.Sound.raise {a : AlarmState} (h : a.Sound) (k : AlarmKind) (b : Option Nat)
    (d : Option AlarmDetail) (n : Seconds) : (a.raise k b d n).1.Sound := by
  unfold AlarmState.raise
  split
  · exact h.map _ (fun e => by split <;> exact ⟨rfl, rfl, rfl⟩) _
  · rename_i absent
    split
    · rename_i es room
      obtain ⟨sub, len⟩ := makeRoom_sublist room h.room
      refine ⟨by simp only [List.length_append, List.length_singleton]; omega, ?_⟩
      simp only [List.filter_append]
      refine List.pairwise_append.2 ⟨h.unique.sublist (sub.filter _), by simp, fun x hx y hy => ?_⟩
      obtain ⟨hx, open_⟩ := List.mem_filter.1 hx
      obtain rfl : y = _ := List.mem_singleton.1 (List.mem_filter.1 hy).1
      have := List.find?_eq_none.1 absent x (sub.subset hx)
      simpa [AlarmEntry.standsFor, open_] using this
    · exact ⟨h.room, h.unique⟩

/-- An acknowledgement leaves every entry in its place, and takes one from the unacknowledged. -/
theorem ackFirst_sublist {es : List AlarmEntry} {x : List AlarmEntry × AlarmEntry}
    (h : ackFirst es = some x) : x.1.length = es.length ∧
      (x.1.filter fun e => !e.acked).Sublist (es.filter fun e => !e.acked) := by
  induction es generalizing x with
  | nil => cases h
  | cons e es ih =>
    unfold ackFirst at h
    split at h
    · rename_i acked
      obtain ⟨y, hy, rfl⟩ := Option.map_eq_some_iff.1 h
      obtain ⟨len, sub⟩ := ih hy
      exact ⟨by simp [len], by simpa [acked] using sub⟩
    · rename_i open_
      cases h
      exact ⟨rfl, by simp [open_]⟩

/-- The soundness of the Alarm List survives every command. -/
theorem closed_alarmsSound : Closed fun s => s.alarms.Sound where
  send _ _ g := g
  bay _ _ _ g := g
  bays _ _ _ g := g
  record _ _ g := g
  phase _ _ g := g
  berth _ _ _ g := g
  queue _ _ _ g := g
  operation _ g := g
  removal _ g := g
  doors _ _ g := g
  alarm k b d g := g.raise k b d _
  cleared p g := g.clear p
  sense _ _ g := g
  emer _ _ g := g
  mode _ _ g := g
  link _ _ g := g
  bus _ _ g := g
  secure _ _ g := g
  store _ _ g := g
  startup k _ g := by
    unfold State.startupValues
    dsimp only
    split
    · exact ⟨Nat.zero_le _, List.Pairwise.nil⟩
    · exact g
  sending _ g := g
  lines _ g := g
  append _ _ _ _ g := g
  acked _ hx g :=
    have ⟨len, sub⟩ := ackFirst_sublist hx
    ⟨Nat.le_trans (Nat.le_of_eq len) g.room, g.unique.sublist sub⟩
  purged g := g.sublist List.filter_sublist _

/-- Settles O8: the list operations keep the bound and the uniqueness, a raise by making room first and
adding an entry only where none stands for its kind and bay. -/
theorem everyStepKeepsTheAlarmListSound : Obligations.EveryStepKeepsTheAlarmListSound := by
  unfold Obligations.EveryStepKeepsTheAlarmListSound
  refine fun s t sound h => step_keeps (P := fun s => s.alarms.Sound) (fun _ _ _ _ g => g)
    (fun {i s t} g e => closed_alarmsSound.exec (fun loss => ?_) g e) sound h
  subst loss
  cases e
  split
  · unfold State.tornStore
    split <;> exact g
  · exact g

/-! ### The approach queue (R21) -/

/-- Counted from a later record, distances shrink by the distance of that record. -/
theorem seqFrom_shift {h h' a : Nat} (le : seqFrom h h' ≤ seqFrom h a) :
    seqFrom h' a = seqFrom h a - seqFrom h h' := by
  unfold seqFrom at *
  omega

/-- Ascending order counted from a head is ascending order counted from any record of the queue,
for the records from it on. -/
theorem queue_ascending_from {h x : Approach} {q : List Approach}
    (asc : (x :: q).Pairwise fun a b => seqFrom h.seq a.seq < seqFrom h.seq b.seq) :
    (x :: q).Pairwise fun a b => seqFrom x.seq a.seq < seqFrom x.seq b.seq := by
  have after : ∀ a ∈ x :: q, seqFrom h.seq x.seq ≤ seqFrom h.seq a.seq := fun a ha =>
    (List.mem_cons.1 ha).elim (fun e => e ▸ Nat.le_refl _) fun m =>
      Nat.le_of_lt ((List.pairwise_cons.1 asc).1 a m)
  refine (List.pairwise_iff_forall_sublist.2 fun {a b} sub => ?_)
  have lt := List.pairwise_iff_forall_sublist.1 asc sub
  have ha := after a (sub.subset (by simp))
  have hb := after b (sub.subset (by simp))
  rw [seqFrom_shift ha, seqFrom_shift hb]
  omega

theorem BerthState.QueueSound.of_sublist {x y : BerthState} (h : x.QueueSound)
    (sub : y.queue.Sublist x.queue) : y.QueueSound := by
  refine ⟨Nat.le_trans sub.length_le h.room, fun a rest e => ?_⟩
  cases hq : x.queue with
  | nil =>
    rw [hq, e] at sub
    cases List.sublist_nil.1 sub
  | cons b q =>
    have asc := (h.ascending b q hq).sublist sub
    rw [e] at asc ⊢
    exact queue_ascending_from asc

/-- A record that comes after the tail comes after every record. -/
theorem BerthState.QueueSound.append {x y : BerthState} (h : x.QueueSound)
    {a : Approach} (room : x.queue.length < queueLimit)
    (tail : comesAfterTail x.queue a.seq = true) (hy : y.queue = x.queue ++ [a]) : y.QueueSound := by
  refine ⟨by rw [hy]; simp only [List.length_append, List.length_singleton]; omega, fun b rest e => ?_⟩
  rw [hy] at e ⊢
  cases hq : x.queue with
  | nil => simp
  | cons c q =>
    rw [hq] at e tail
    cases e
    refine List.pairwise_append.2 ⟨hq ▸ h.ascending b q hq, by simp, fun z hz w hw => ?_⟩
    obtain rfl : w = a := List.mem_singleton.1 hw
    obtain ⟨last, hl⟩ : ∃ t, (b :: q).getLast? = some t := ⟨_, List.getLast?_eq_some_getLast (by simp)⟩
    have lt : seqFrom b.seq last.seq < seqFrom b.seq w.seq := by simpa [comesAfterTail, hl] using tail
    refine Nat.lt_of_le_of_lt ?_ lt
    obtain ⟨pre, hpre⟩ := List.getLast?_eq_some_iff.1 hl
    have asc := h.ascending b q hq
    rw [hq, hpre, List.pairwise_append] at asc
    rw [hpre] at hz
    obtain m | m := List.mem_append.1 hz
    · exact Nat.le_of_lt (asc.2.2 z m last (by simp))
    · exact Nat.le_of_eq (congrArg (fun x : Approach => seqFrom b.seq x.seq) (List.mem_singleton.1 m))

/-- The soundness of the queue survives every command. -/
theorem closed_queueSound : Closed fun s => s.berth.QueueSound where
  send _ _ g := g
  bay _ _ _ g := g
  bays _ _ _ g := g
  record _ _ g := g.of_sublist (List.Sublist.refl _)
  phase _ _ g := g.of_sublist (List.Sublist.refl _)
  berth _ _ same g := g.of_sublist (same.1 ▸ List.Sublist.refl _)
  queue _ _ sub g := g.of_sublist sub
  operation _ g := g
  removal _ g := g
  doors _ _ g := g
  alarm _ _ _ g := g
  cleared _ g := g
  sense _ _ g := g
  emer _ _ g := g
  mode _ _ g := g
  link _ _ g := g
  bus _ _ g := g
  secure _ _ g := g
  store _ _ g := g
  startup _ _ g := g.of_sublist (List.nil_sublist _)
  sending _ g := g
  lines _ g := g
  append _ _ room tail g := g.append room tail rfl
  acked _ _ g := g
  purged g := g

/-- Settles O9: a queue that loses records stays ascending from its new head, and an append joins only
after the tail and with room. -/
theorem everyStepKeepsTheQueueSound : Obligations.EveryStepKeepsTheQueueSound := by
  unfold Obligations.EveryStepKeepsTheQueueSound
  refine fun s t sound h => step_keeps (P := fun s => s.berth.QueueSound) (fun _ _ _ _ g => g)
    (fun {i s t} g e => closed_queueSound.exec (fun loss => ?_) g e) sound h
  subst loss
  cases e
  split
  · unfold State.tornStore
    split <;> exact g
  · exact g

/-! ### The bay records (section 4.1) -/

theorem closed_shaped : Closed State.Shaped where
  send _ _ g := g
  bay b f _ g := (State.setBay_length _ b f).trans g
  bays _ _ e g := e.trans g
  record _ _ g := g
  phase _ _ g := g
  berth _ _ _ g := g
  queue _ _ _ g := g
  operation _ g := g
  removal _ g := g
  doors _ _ g := g
  alarm _ _ _ g := g
  cleared _ g := g
  sense _ _ g := g
  emer _ _ g := g
  mode _ _ g := g
  link _ _ g := g
  bus _ _ g := g
  secure _ _ g := g
  store _ _ g := g
  startup _ _ g := (List.length_map ..).trans g
  sending _ g := g
  lines _ g := g
  append _ _ _ _ g := g
  acked _ _ g := g
  purged g := g

/-- Settles O10: no command adds or removes a bay record. -/
theorem everyStepKeepsTheBayRecords : Obligations.EveryStepKeepsTheBayRecords := by
  unfold Obligations.EveryStepKeepsTheBayRecords
  refine fun s t shaped h => step_keeps (P := State.Shaped) (fun _ _ _ _ g => g)
    (fun {i s t} g e => closed_shaped.exec (fun loss => ?_) g e) shaped h
  subst loss
  cases e
  split
  · unfold State.tornStore
    split <;> exact g
  · exact g

/-! ### The reset state (section 12.4) -/

theorem reset_settled : State.reset.Settled where
  reasons := by decide
  asserted := by decide
  driveA := by decide
  driveB := by decide
  timerA := by decide
  timerB := by decide
  phase := by decide
  movement := by decide

/-- Settles O5: the reset state is settled, and its 24 bay records are replicated. -/
theorem resetSatisfiesTheInvariant : Obligations.ResetSatisfiesTheInvariant := by
  unfold Obligations.ResetSatisfiesTheInvariant
  exact ⟨⟨fun _ => reset_settled, fun off => Bool.noConfusion off⟩, rfl⟩

/-- The blocks of the reset state have the values of power-on; its checksum is not worked out. -/
theorem reset_startupValues : State.reset.begin_.startupValues .power =
    { State.reset with send := { State.reset.send with
        signalling := ⟨0, .signallingDefault, .idle⟩, sent := [] } } := by
  unfold State.startupValues
  rw [State.begin_store, reset_store_atStartup]
  rfl

/-- The PLATFORM_STATUS of the entry is the frame the reset state has sent. -/
theorem reset_enterStartup : State.reset.begin_.enterStartup .power = State.reset := by
  unfold State.enterStartup
  rw [reset_startupValues]
  rfl

/-- Settles O4: the entry to STARTUP gives the reset state back, which is settled. -/
theorem resetStandsAfterPowerOn : Obligations.ResetStandsAfterPowerOn := by
  unfold Obligations.ResetStandsAfterPowerOn
  have stands : exec .powerOn State.reset = .next State.reset := by
    show Host.Outcome.next (State.finish _) = _
    rw [reset_enterStartup, reset_settled.finish_eq]
  exact ⟨stands, by decide⟩

end Sys2Proof.Machine
end

section
/-!
PROOFS. A request, from its arrival to its reply (R139, R151, R152): what the arrival of a frame changes,
the one reply of every request, and the requests turned away for their length, their class (R153) or the
mode.
-/
namespace Sys2Proof.Machine
open Sys2Proof

/-! ### Settled states and the Alarm List -/

/-- What is raised or ends apart from UNEXPECTED_MOVEMENT leaves a settled state settled. -/
theorem State.Settled.of_alarms {s : State} (h : s.Settled) {a : AlarmState} (d : SendState)
    (same : a.isActive .unexpectedMovement none = s.alarms.isActive .unexpectedMovement none) :
    State.Settled { s with alarms := a, send := d } :=
  h.of_parts ⟨.inl rfl, rfl, rfl, fun _ => rfl, rfl, rfl, rfl⟩ rfl rfl rfl rfl same

theorem AlarmState.raise_movement (a : AlarmState) {k : AlarmKind} (b : Option Nat)
    (d : Option AlarmDetail) (n : Seconds) (hk : k ≠ .unexpectedMovement) :
    (a.raise k b d n).1.isActive .unexpectedMovement none = a.isActive .unexpectedMovement none :=
  a.raise_other d n (.inl hk.symm)

/-- The end of the condition of another kind. -/
theorem AlarmState.clear_movement (a : AlarmState) {k : AlarmKind} (b : Option Nat)
    (hk : k ≠ .unexpectedMovement) :
    (a.clear fun e => decide (e.kind = k) && decide (e.bay = b)).isActive .unexpectedMovement none =
      a.isActive .unexpectedMovement none :=
  a.clear_other fun e he _ => by simp [he, hk.symm]

/-! ### The arrival of a frame (R139, R141) -/

/-- The arrival of a frame changes nothing but the link, the Alarm List and what is sent. -/
theorem State.taken_parts (s : State) (p : Port) :
    ∃ l a d, s.taken p = { s with link := l, alarms := a, send := d } := by
  unfold State.taken State.goodFrame State.trainFrame State.trainUp
  dsimp only
  split
  · split
    · exact ⟨_, _, _, rfl⟩
    · split <;> split <;> exact ⟨_, _, _, rfl⟩
  · exact ⟨_, s.alarms, _, rfl⟩

@[simp] theorem State.taken_mode (s : State) (p : Port) : (s.taken p).mode = s.mode := by
  obtain ⟨_, _, _, e⟩ := s.taken_parts p
  rw [e]

@[simp] theorem State.taken_seconds (s : State) (p : Port) : (s.taken p).seconds = s.seconds := by
  obtain ⟨_, _, _, e⟩ := s.taken_parts p
  rw [e]
  rfl

theorem State.taken_takesAppends (s : State) (p : Port) :
    (s.taken p).takesAppends = s.takesAppends := by
  obtain ⟨_, _, _, e⟩ := s.taken_parts p
  rw [e]
  rfl

/-- With the Train Link UP, a frame on it restarts the loss timer and does no more (R139). -/
theorem State.taken_train {s : State} (h : s.link.trainUp = true) :
    s.taken .train = { s.begin_ with link := { s.link with
      trainLossAt := s.now + s.param .trainLoss, lastTrainFrame := some s.now } } := by
  unfold State.taken State.goodFrame State.trainFrame
  simp only [if_true, State.begin_link, h]
  rw [← h]
  rfl

theorem State.Inv.taken_settled {s : State} (inv : s.Inv) (hp : s.powered = true) (p : Port) :
    (s.taken p).Settled := (inv.settled_begin hp).goodFrame p

/-! ### The decision of a request -/

section
variable {s : State} {r : Req} {k : Nat} {decision : State → Answer}

/-- A decision that leaves a settled state is left as it is, and replied to. -/
theorem State.takeFrame_decided (hp : s.powered = true) (ha : s.otherAddress r = false)
    (settled : (decision (s.taken r.port)).state.Settled) :
    ∃ x : SendState, s.takeFrame r k decision = { (decision (s.taken r.port)).state with send := x } ∧
      s.replyFrame r k (decision (s.taken r.port)).result (decision (s.taken r.port)).detail ∈ x.sent := by
  obtain ⟨x, e, m⟩ := State.takeFrame_eq hp ha k decision
  rw [settled.finish_eq] at e
  exact ⟨x, e, m⟩

/-- A refusal changes nothing but what the arrival of the frame changes. -/
theorem State.takeFrame_refused (inv : s.Inv) (hp : s.powered = true) (ha : s.otherAddress r = false)
    {x : Result} (refused : decision (s.taken r.port) = (s.taken r.port).answer x) :
    (s.taken r.port).SameButSend (s.takeFrame r k decision) ∧
      s.replyFrame r k x .empty ∈ (s.takeFrame r k decision).send.sent := by
  obtain ⟨d, e, m⟩ := State.takeFrame_decided (k := k) (decision := decision) hp ha
    (by rw [refused]; exact inv.taken_settled hp r.port)
  rw [refused] at e m
  rw [e]
  exact ⟨⟨rfl, rfl, rfl, rfl, rfl, rfl, rfl⟩, m⟩

end

theorem State.decideRequest_format (r : Req) (k : ReqKind) (o : State → Answer) (s : State) :
    State.decideRequest r k false o s = s.answer .format := rfl

theorem State.decideRequest_privilege {r : Req} {k : ReqKind} {s : State} (o : State → Answer)
    (h : k.allows (s.authorityOf r.port) = false) :
    State.decideRequest r k true o s = s.refuseAuthority r k := by
  unfold State.decideRequest
  simp [h]

theorem State.decideRequest_owner {r : Req} {k : ReqKind} {s : State} (o : State → Answer)
    (h : k.allows (s.authorityOf r.port) = true) : State.decideRequest r k true o s = o s := by
  unfold State.decideRequest
  simp [h]

/-- A request of a class that may not send its kind raises AUTHORITY_REFUSED and changes nothing else. -/
theorem State.takeFrame_privilege {s : State} {r : Req} {k : ReqKind} (inv : s.Inv)
    (hp : s.powered = true) (ha : s.otherAddress r = false) (o : State → Answer)
    (h : k.allows (s.authorityOf r.port) = false) :
    s.Replied (s.takeFrame r k.code (State.decideRequest r k true o)) r k .privilege .empty ∧
      State.SameButSend { s.taken r.port with alarms := ((s.taken r.port).alarms.raise
          .authorityRefused none (some (.refused r.port k)) s.seconds).1 }
        (s.takeFrame r k.code (State.decideRequest r k true o)) := by
  have refused := State.decideRequest_privilege (s := s.taken r.port) o
    (by rw [State.taken_authority]; exact h)
  have settled : ((s.taken r.port).refuseAuthority r k).state.Settled :=
    (inv.taken_settled hp r.port).of_alarms _ (AlarmState.raise_movement _ _ _ _ (by decide))
  obtain ⟨x, e, m⟩ := State.takeFrame_decided (k := k.code)
    (decision := State.decideRequest r k true o) hp ha (by rw [refused]; exact settled)
  rw [refused] at e m
  rw [e]
  exact ⟨m, rfl, rfl, rfl, rfl, rfl, rfl, by rw [← s.taken_seconds r.port]; rfl⟩

/-! ### The owner of each request (R154) -/

/-- The decision of the owner of each request; the commands that are no request have none. -/
def ownerOf (i : Instr) (s : State) : Answer :=
  match i with
  | .heartbeat _ => s.heartbeat.answer .done
  | .appendApproach _ f => s.appendApproach f
  | .withdrawApproach _ n => s.withdrawApproach n
  | .resyncQueue _ e c => s.resyncQueue e c
  | .isolationConcurrence _ b => s.concur b
  | .statusRequest _ => s.answerWith (.platformStatus s.platformStatus)
  | .identify _ f => s.identify f
  | .stopped _ x => s.report (State.stop x)
  | .moving _ => s.report fun t => t.noteMovement.movement
  | .openRequest _ => s.doorMode (State.openChecked .train)
  | .openStation _ => s.doorMode (State.openChecked s.stationOrigin)
  | .closeRequest _ => s.doorMode (State.closeChecked .train)
  | .closeStation _ => s.doorMode (State.closeChecked s.stationOrigin)
  | .statusRead _ => s.answerWith (.status s.statusView)
  | .bayRead _ b =>
    if s.inTable b then s.answerWith (.bay (s.bayView b)) else s.answer .invalidArgument
  | .alarmRead _ n =>
    if 1 ≤ n ∧ n ≤ alarmLimit then s.answerWith (.alarms (s.alarmView n)) else s.answer .invalidArgument
  | .queueRead _ => s.answerWith (.queue s.queueView)
  | .ackNext _ => s.ackNext
  | .purgeAlarms _ => s.purgeAlarms
  | .confirmOpen _ => s.confirmOpen
  | .retryBay _ b => s.singleBay b BayState.isHeld (State.retryBay b)
  | .closeBay _ b => s.singleBay b BayState.isClosable (State.closeBay b)
  | .restoreBay _ b => s.restoreBay b
  | .probeAlignment _ f => s.probeAlignment f
  | .clearUsage _ b => s.clearUsage b
  | .setNoticeMask _ p c => s.setNoticeMask p c
  | .confirmBerth _ n o => s.confirmBerth n o
  | .isolateBay _ b => s.isolateBay b
  | .deisolateBay _ b => s.deisolateBay b
  | .rearm _ => s.rearmRequest
  | .enterCommissioning _ => s.enterCommissioningRequest
  | .writeGeometry _ f => s.write (writeGeometry f)
  | .writeProfile _ f => s.write (writeProfile f)
  | .writeParameters _ f => s.write (writeParameters f)
  | .commit _ => if s.mode ≠ .commissioning then s.answer .wrongMode else s.commitChecked false
  | .exitCommissioning _ => s.leaveChecked fun t => (t.enterStartup .commissioning).answer .done
  | .commitAndExit _ => s.leaveChecked (State.commitChecked true)
  | .testBayStep _ b => s.testBayStep b
  | .restart _ => s.restart
  | _ => s.answer .format

/-- The length check of each request (R162). -/
def lengthGood (i : Instr) (r : Req) (k : ReqKind) : Bool :=
  match i with
  | .writeParameters _ f => parametersLength f.position r.len
  | _ => r.len == k.length

/-- Every request is a frame taken, decided by its length, its class and its owner. -/
theorem exec_takesFrame {i : Instr} {r : Req} {k : ReqKind} (h : requestOf i = some (r, k)) (s : State) :
    exec i s = .next (s.takeFrame r k.code (State.decideRequest r k (lengthGood i r k) (ownerOf i))) := by
  cases i
  case heartbeat | appendApproach | withdrawApproach | resyncQueue | isolationConcurrence
    | statusRequest | identify | stopped | moving | openRequest | openStation | closeRequest
    | closeStation | statusRead | bayRead | alarmRead | queueRead | ackNext | purgeAlarms
    | confirmOpen | retryBay | closeBay | restoreBay | probeAlignment | clearUsage | setNoticeMask
    | confirmBerth | isolateBay | deisolateBay | rearm | enterCommissioning | writeGeometry
    | writeProfile | writeParameters | commit | exitCommissioning | commitAndExit | testBayStep
    | restart =>
    cases h
    rfl
  all_goals cases h

theorem lengthGood_eq {i : Instr} {r : Req} {k : ReqKind} (h : requestOf i = some (r, k))
    (hk : k ≠ .writeParameters) : lengthGood i r k = (r.len == k.length) := by
  unfold lengthGood
  split
  · cases h
    exact absurd rfl hk
  · rfl

/-- Every request but WRITE_PARAMETERS is a `request_` of its kind, decided by its owner. -/
theorem exec_ownedRequest {r : Req} {k : ReqKind} {i : Instr} (hi : requestOf i = some (r, k))
    (hk : k ≠ .writeParameters) (s : State) :
    exec i s = .next (s.request_ r k (ownerOf i)) := by
  rw [exec_takesFrame hi, lengthGood_eq hi hk]
  rfl

/-! ### One reply (R152) -/

/-- No reply is among the frames sent. -/
def State.NoReply (s : State) : Prop := s.send.replies = []

/-- No operation of the part but the taking of a request makes a reply. -/
theorem stable_noReply : Stable Touch.all State.NoReply where
  send _ step g := step.replies.trans g
  bay _ _ _ g := g
  bays _ _ _ g := g
  record _ _ g := g
  phase _ _ g := g
  berth _ _ _ g := g
  queue _ _ _ g := g
  operation _ g := g
  removal _ g := g
  doors _ _ g := g
  alarm _ _ _ g := g
  cleared _ g := g
  sense _ _ g := g
  emer _ _ g := g
  mode _ _ g := g
  link _ _ g := g
  bus _ _ g := g
  secure _ _ g := g
  store _ _ g := g
  startup k _ g := by cases k <;> exact g

theorem State.joinQueue_noReply {s : State} (a : Approach) (c : Bool) (h : s.NoReply) :
    (s.joinQueue a c).state.NoReply := by
  unfold State.joinQueue
  split
  · exact stable_noReply.sendStatus (s := { s with berth := _ }) h
  · exact h

theorem State.appendApproach_noReply {s : State} (f : AppendFields) (h : s.NoReply) :
    (s.appendApproach f).state.NoReply := by
  unfold State.appendApproach
  split
  · exact h
  split
  · exact h
  split
  · exact h
  split
  · exact h
  split
  · exact h
  unfold State.sequenceAppend
  split
  · exact State.joinQueue_noReply _ _ h
  split
  · exact State.joinQueue_noReply _ _ h
  split
  · exact stable_noReply.sendStatus (s := { s with berth := _ }) h
  · exact State.joinQueue_noReply _ _ (stable_noReply.raise _ _ _ h)

theorem State.intrusionAcked_noReply {s : State} (h : s.NoReply) :
    s.intrusionAcked.NoReply := by
  have cleared := stable_noReply.clear .trackIntrusion none
    (s := { s with sense := { s.sense with intrusion := .clear } }) h
  unfold State.intrusionAcked
  split
  · dsimp only
    split
    · exact cleared
    · exact cleared
  · exact h

theorem State.ackNext_noReply {s : State} (h : s.NoReply) :
    s.ackNext.state.NoReply := by
  unfold State.ackNext
  split
  · exact h
  · unfold State.answerWith
    dsimp only
    split
    · exact State.intrusionAcked_noReply (s := { s with alarms := _ }) h
    · exact h

theorem State.purgeAlarms_noReply {s : State} (h : s.NoReply) :
    s.purgeAlarms.state.NoReply := by
  unfold State.purgeAlarms State.answerWith State.reraiseIntrusion
  dsimp only
  split
  · exact stable_noReply.raise _ _ _ h
  · exact h

theorem SendState.setPort_replies (p : Port) (f : PortState → PortState) (d : SendState) :
    (d.setPort p f).replies = d.replies := by cases p <;> rfl

theorem State.setNoticeMask_noReply {s : State} (p : Coded Port) (c : Byte) (h : s.NoReply) :
    (s.setNoticeMask p c).state.NoReply := by
  unfold State.setNoticeMask
  split
  · exact (SendState.setPort_replies _ _ _).trans h
  · exact h

/-- No owner makes a reply of its own. -/
theorem ownerOf_noReply (i : Instr) {s : State} (h : s.NoReply) :
    (ownerOf i s).state.NoReply := by
  have st := stable_noReply
  have T : ∀ b : Nat, Touch.all.bay b := fun _ => trivial
  cases i
  case heartbeat => exact st.heartbeat trivial trivial h
  case appendApproach => exact State.appendApproach_noReply _ h
  case withdrawApproach => exact st.withdrawApproach _ trivial h
  case resyncQueue => exact st.resyncQueue _ _ trivial h
  case isolationConcurrence => exact st.concur _ trivial h
  case identify => exact st.identify _ trivial T h
  case stopped x => exact Stable.report (fun _ g => st.stop x trivial T g) h
  case moving => exact Stable.report (fun _ g => st.moving trivial T g) h
  case openRequest | openStation => exact Stable.doorMode (st.openChecked _ T h) h
  case closeRequest | closeStation => exact Stable.doorMode (st.closeChecked _ T h) h
  case bayRead | alarmRead =>
    unfold ownerOf
    dsimp only
    split <;> exact h
  case ackNext => exact State.ackNext_noReply h
  case purgeAlarms => exact State.purgeAlarms_noReply h
  case confirmOpen => exact st.confirmOpen trivial h
  case retryBay => exact Stable.singleBay (st.retryBay trivial h) h
  case closeBay => exact Stable.singleBay (st.closeBay trivial h) h
  case restoreBay => exact st.restoreBay trivial trivial h
  case probeAlignment f => exact Stable.probeAlignment (P := State.NoReply) f h
  case clearUsage => exact st.clearUsage _ T h
  case setNoticeMask => exact State.setNoticeMask_noReply _ _ h
  case confirmBerth => exact st.confirmBerth _ _ trivial T h
  case isolateBay => exact st.isolateBay trivial trivial h
  case deisolateBay => exact st.deisolateBay trivial h
  case rearm => exact st.rearmRequest T trivial trivial h
  case enterCommissioning => exact st.enterCommissioningRequest trivial trivial h
  case writeGeometry | writeProfile | writeParameters => exact st.write _ trivial h
  case commit =>
    unfold ownerOf
    dsimp only
    split
    · exact h
    · exact st.commitChecked _ trivial h
  case exitCommissioning =>
    exact Stable.leaveChecked (P := State.NoReply)
      (by exact st.enterStartup .commissioning trivial h) h
  case commitAndExit => exact Stable.leaveChecked (st.commitChecked _ trivial h) h
  case testBayStep => exact st.testBayStep trivial h
  case restart => exact st.restart trivial h
  all_goals exact h

/-- The turn of the station adds notices, and no reply. -/
theorem SendState.turn_replies (a n : Nat) (d : SendState) : (d.turn a n).replies = d.replies := by
  induction n generalizing d with
  | zero => rfl
  | succ n ih =>
    unfold SendState.turn
    split
    · rfl
    · rename_i x rest _
      exact (ih _).trans (SendState.unsolicited_step (up := true) a 0xF3
        { d with outbox := rest, lost := 0 } rfl (by simp)).replies

theorem State.stationTurn_replies (p : Port) (s : State) :
    (s.stationTurn p).send.replies = s.send.replies := by
  unfold State.stationTurn
  split
  · exact SendState.turn_replies _ _ _
  · rfl

/-- A reply put among frames that are none is the one reply. -/
theorem State.sendReply_replies {s : State} (h : s.NoReply) (n : Nat) {f : Frame}
    (hf : f.isReply = true) : (s.sendReply n f).send.replies = [f] := by
  have none_ : ∀ l : List Frame, (∀ x ∈ l, x ∈ s.send.sent) → l.filter Frame.isReply = [] :=
    fun l sub => List.filter_eq_nil_iff.2 fun x hx => List.filter_eq_nil_iff.1 h x (sub x hx)
  unfold State.sendReply SendState.replies
  simp only [List.filter_append, List.filter_cons, hf, if_true]
  rw [none_ _ fun x => List.mem_of_mem_take, none_ _ fun x => List.mem_of_mem_drop]
  rfl

/-- Settles O11: no owner makes a reply, so the one the taking of the frame adds is the only one. -/
theorem everyRequestGetsOneReply : Obligations.EveryRequestGetsOneReply := by
  unfold Obligations.EveryRequestGetsOneReply
  intro i r k s request powered address
  have st := stable_noReply
  have taken : (s.taken r.port).NoReply := st.goodFrame (s := s.begin_) r.port trivial rfl
  have decided := st.decideRequest (r := r) (k := k) (l := lengthGood i r k)
    (ownerOf_noReply i taken) taken
  refine ⟨_, (State.decideRequest r k (lengthGood i r k) (ownerOf i) (s.taken r.port)).result,
    (State.decideRequest r k (lengthGood i r k) (ownerOf i) (s.taken r.port)).detail,
    exec_takesFrame request s, ?_⟩
  rw [← State.taken_replyFrame]
  unfold State.takeFrame
  rw [powered, address]
  exact (State.stationTurn_replies _ _).trans (State.sendReply_replies (st.finish trivial decided) _ rfl)

/-! ### Requests of the wrong length or class (R152, R153) -/

theorem parametersLength_named {n len : Nat} {p : Param} (h : Param.ofPosition n = some p) :
    parametersLength n len = true ↔ len = 1 + p.bytes := by
  unfold parametersLength
  rw [h]
  exact beq_iff_eq

theorem parametersLength_unnamed {n len : Nat} (h : Param.ofPosition n = none) :
    parametersLength n len = true ↔ len = 2 ∨ len = 3 := by
  unfold parametersLength
  rw [h, Bool.or_eq_true, beq_iff_eq, beq_iff_eq]

/-- Settles O12: the length is decided first, then the class. -/
theorem wrongLengthAndWrongClassAreRefused : Obligations.WrongLengthAndWrongClassAreRefused := by
  unfold Obligations.WrongLengthAndWrongClassAreRefused
  refine ⟨fun i r k s inv request other powered address => ⟨fun wrong => ⟨_, exec_takesFrame request s, ?_⟩,
    fun right refused => ⟨_, exec_takesFrame request s, ?_⟩⟩,
    fun r f s inv powered address => ⟨fun wrong => ⟨_, exec_takesFrame rfl s, ?_⟩,
      fun right refused => ⟨_, exec_takesFrame rfl s, ?_⟩⟩,
    fun n len => ⟨fun p => parametersLength_named, parametersLength_unnamed⟩⟩
  · rw [lengthGood_eq request other, beq_eq_false_iff_ne.2 wrong]
    exact (State.takeFrame_refused inv powered address (State.decideRequest_format r k _ _)).symm
  · rw [lengthGood_eq request other, beq_iff_eq.2 right]
    exact State.takeFrame_privilege inv powered address _ refused
  · rw [show lengthGood (.writeParameters r f) r .writeParameters = false from wrong]
    exact (State.takeFrame_refused inv powered address (State.decideRequest_format r _ _ _)).symm
  · rw [show lengthGood (.writeParameters r f) r .writeParameters = true from right]
    exact State.takeFrame_privilege inv powered address _ refused

/-! ### Requests out of their modes -/

/-- The modes in which each kind is answered WRONG_MODE. -/
def State.OutOfMode (s : State) (k : ReqKind) : Prop :=
  s.mode = .startup ∧ k ∈ [ReqKind.restoreBay, .probeAlignment, .clearUsage, .restart] ∨
  (s.mode = .startup ∨ s.mode = .configFault) ∧ k = .deisolateBay ∨
  (s.mode = .startup ∨ s.mode = .emergency) ∧ k = .enterCommissioning ∨
  (s.mode = .startup ∨ s.mode = .configFault ∨ s.mode = .commissioning) ∧
    k ∈ [ReqKind.withdrawApproach, .resyncQueue, .isolationConcurrence, .identify, .stopped, .moving,
      .openRequest, .openStation, .closeRequest, .closeStation, .confirmOpen, .confirmBerth,
      .retryBay, .closeBay, .isolateBay] ∨
  s.takesAppends = false ∧ k = .appendApproach ∨ s.mode ≠ .emergency ∧ k = .rearm ∨
  s.mode ≠ .commissioning ∧ k ∈ [ReqKind.writeGeometry, .writeProfile, .commit, .exitCommissioning,
    .commitAndExit, .testBayStep]

theorem State.OutOfMode.taken {s : State} {k : ReqKind} (h : s.OutOfMode k) (p : Port) :
    (s.taken p).OutOfMode k := by
  unfold State.OutOfMode at *
  rwa [State.taken_mode, State.taken_takesAppends]

section
variable {s : State}

theorem State.working_eq_false (h : s.mode = .startup ∨ s.mode = .configFault ∨ s.mode = .commissioning) :
    s.working = false := by
  unfold State.working
  obtain m | m | m := h <;> rw [m]

theorem State.doorMode_outOfService (go : State → Answer)
    (h : s.mode = .startup ∨ s.mode = .configFault ∨ s.mode = .commissioning) :
    s.doorMode go = s.answer .wrongMode := by
  unfold State.doorMode
  obtain m | m | m := h <;> rw [m]

theorem State.doorMode_emergency (go : State → Answer) (h : s.mode = .emergency) :
    s.doorMode go = s.answer .emergency := by
  unfold State.doorMode
  rw [h]

theorem State.doorMode_inService (go : State → Answer) (h : s.mode = .normal ∨ s.mode = .localMode) :
    s.doorMode go = go s := by
  unfold State.doorMode
  obtain m | m := h <;> rw [m]

theorem State.report_outOfService (f : State → State) (h : s.working = false) :
    s.report f = s.answer .wrongMode := by
  simp [State.report, h]

theorem State.leaveChecked_outOfMode (go : State → Answer) (h : s.mode ≠ .commissioning) :
    s.leaveChecked go = s.answer .wrongMode := by
  simp [State.leaveChecked, h]

theorem State.write_outOfMode (f : Content → Written) (h : s.mode ≠ .commissioning) :
    s.write f = s.answer .wrongMode := by
  simp [State.write, h]

/-- Out of its modes every request is refused by its owner. -/
theorem ownerOf_outOfMode {i : Instr} {r : Req} {k : ReqKind} (hi : requestOf i = some (r, k))
    (h : s.OutOfMode k) : ownerOf i s = s.answer .wrongMode := by
  unfold State.OutOfMode at h
  cases i
  case withdrawApproach | resyncQueue | isolationConcurrence | identify | confirmOpen | confirmBerth
    | retryBay | closeBay | isolateBay =>
    cases hi
    simp at h
    simp [ownerOf, State.withdrawApproach, State.resyncQueue, State.concur, State.identify,
      State.confirmOpen, State.confirmBerth, State.singleBay, State.isolateBay,
      State.working_eq_false h]
  case stopped | moving =>
    cases hi
    simp at h
    unfold ownerOf
    exact State.report_outOfService _ (State.working_eq_false h)
  case openRequest | openStation | closeRequest | closeStation =>
    cases hi
    simp at h
    exact State.doorMode_outOfService _ h
  case writeGeometry | writeProfile =>
    cases hi
    simp at h
    exact State.write_outOfMode _ h
  case exitCommissioning | commitAndExit =>
    cases hi
    simp at h
    unfold ownerOf
    exact State.leaveChecked_outOfMode _ h
  case restoreBay | probeAlignment | clearUsage | restart | deisolateBay | appendApproach | rearm
    | commit | testBayStep =>
    cases hi
    simp at h
    simp [ownerOf, State.restoreBay, State.probeAlignment, State.clearUsage, State.restart,
      State.deisolateBay, State.appendApproach, State.rearmRequest, State.testBayStep, h]
  case enterCommissioning =>
    cases hi
    simp at h
    unfold ownerOf State.enterCommissioningRequest
    obtain m | m := h <;> rw [m]
  case heartbeat | statusRequest | statusRead | bayRead | alarmRead | queueRead | ackNext
    | purgeAlarms | setNoticeMask | writeParameters =>
    cases hi
    simp at h
  all_goals cases hi

theorem ownerOf_emergency {i : Instr} {r : Req} {k : ReqKind} (hi : requestOf i = some (r, k))
    (hk : k ∈ [ReqKind.openRequest, .openStation, .closeRequest, .closeStation])
    (h : s.mode = .emergency) : ownerOf i s = s.answer .emergency := by
  cases i
  case openRequest | openStation | closeRequest | closeStation => exact State.doorMode_emergency _ h
  all_goals cases hi <;> simp at hk

end

theorem State.OutOfMode.notParameters {s : State} {k : ReqKind} (h : s.OutOfMode k) :
    k ≠ .writeParameters := by
  rintro rfl
  simp [State.OutOfMode] at h

/-- A request that its owner refuses in the state taken. -/
theorem State.Accepts.request_refusedTaken {s : State} {r : Req} {k : ReqKind} (h : s.Accepts r k)
    (inv : s.Inv) {o : State → Answer} {x : Result}
    (refused : o (s.taken r.port) = (s.taken r.port).answer x) :
    (s.taken r.port).SameButSend (s.request_ r k o) ∧ s.Replied (s.request_ r k o) r k x .empty := by
  refine State.takeFrame_refused inv h.powered h.address ?_
  rw [beq_iff_eq.2 h.length, State.decideRequest_owner _ (by rw [State.taken_authority]; exact h.authority)]
  exact refused

/-- Settles O13: each owner judges the mode first. -/
theorem requestsOutOfTheirModesAreRefused : Obligations.RequestsOutOfTheirModesAreRefused := by
  unfold Obligations.RequestsOutOfTheirModesAreRefused
  refine ⟨fun i r k s inv request accepted => ⟨fun out => ?_, fun emergency kind => ?_⟩,
    fun r f s inv powered address right allowed mode => ⟨_, exec_takesFrame rfl s, ?_⟩⟩
  · have out : s.OutOfMode k := out
    exact ⟨_, exec_ownedRequest request out.notParameters s,
      accepted.request_refusedTaken inv (ownerOf_outOfMode request (out.taken _))⟩
  · have other : k ≠ .writeParameters := by
      rintro rfl
      simp at kind
    exact ⟨_, exec_ownedRequest request other s, accepted.request_refusedTaken inv
      (ownerOf_emergency request kind (by rw [State.taken_mode]; exact emergency))⟩
  · rw [show lengthGood (.writeParameters r f) r .writeParameters = true from right]
    refine State.takeFrame_refused inv powered address ?_
    rw [State.decideRequest_owner _ (by rw [State.taken_authority]; exact allowed)]
    exact State.write_outOfMode _ (by rw [State.taken_mode]; exact mode)

end Sys2Proof.Machine
end

section
/-!
PROOFS. What the end of a command reads and leaves (assumption 6): the judgements read of each bay its
state and gap check alone, and `State.finish` leaves every part but phase, secure state, frames and the
end of UNEXPECTED_MOVEMENT.
-/
namespace Sys2Proof.Machine
open Sys2Proof

/-! ### What the judgements read -/

/-- Two states that the judgements of `finish` cannot tell apart, phase and alarms aside. -/
structure SameView (s t : State) : Prop where
  mode : t.mode = s.mode ∨ (t.mode = .normal ∨ t.mode = .localMode) ∧ (s.mode = .normal ∨ s.mode = .localMode)
  state : ∀ b, (t.bay b).state = (s.bay b).state
  gap : ∀ b, (t.bay b).gap = (s.bay b).gap
  count : t.doors.count = s.doors.count
  busy : t.busy = s.busy
  map : ∀ b, t.mapClass b = s.mapClass b
  intrusion : t.sense.intrusion = s.sense.intrusion
  cause : t.noCause = s.noCause
  latched : t.secure.latched = s.secure.latched

namespace SameView
variable {s t : State} (h : SameView s t)
include h

theorem bayIs (b : Nat) (p : BayState → Bool) : t.bayIs b p = s.bayIs b p := by
  unfold State.bayIs
  rw [h.state b]

theorem tableBays : t.tableBays = s.tableBays := by
  unfold State.tableBays
  rw [h.count]

theorem someGapOpen : t.someGapOpen = s.someGapOpen := by
  unfold State.someGapOpen
  simp only [h.tableBays, h.gap]

theorem someBayNotLocked : t.someBayNotLocked = s.someBayNotLocked := by
  unfold State.someBayNotLocked
  simp only [h.tableBays, h.bayIs]

theorem servedBays : t.servedBays = s.servedBays := by
  have served : t.isServed = s.isServed := by
    funext b
    unfold State.isServed State.matchedDoor
    rw [h.map b]
  unfold State.servedBays
  rw [h.tableBays, served]

theorem servedShut : t.servedShut = s.servedShut := by
  unfold State.servedShut
  simp only [h.servedBays, h.bayIs]

theorem judge : t.judge = s.judge := by
  unfold State.judge
  rw [h.someBayNotLocked, h.someGapOpen, h.intrusion, h.cause, h.latched]
  obtain m | ⟨m, n⟩ := h.mode
  · rw [m]
  · obtain m | m := m <;> obtain n | n := n <;> rw [m, n] <;> rfl

theorem settledPhase (hp : t.berth.phase = s.berth.phase) : t.settledPhase = s.settledPhase := by
  unfold State.settledPhase
  rw [hp, h.servedShut, h.someGapOpen, h.busy]

theorem movementOver (ha : t.alarms.isActive .unexpectedMovement none =
    s.alarms.isActive .unexpectedMovement none) : t.movementOver = s.movementOver := by
  have active : t.hasActive .unexpectedMovement none = s.hasActive .unexpectedMovement none := ha
  unfold State.movementOver
  simp only [active, h.tableBays, h.bayIs]

end SameView

theorem SameView.refl (s : State) : SameView s s :=
  ⟨.inl rfl, fun _ => rfl, fun _ => rfl, rfl, rfl, fun _ => rfl, rfl, rfl, rfl⟩

/-- A change of bay records that leaves their states and gap checks, with any other change the judgements
do not read. -/
theorem State.Settled.of_view {s t : State} (h : s.Settled) (v : SameView s t)
    (hp : t.berth.phase = s.berth.phase) (hs : t.secure = s.secure)
    (ha : t.lines.readbackA = s.lines.readbackA) (hb : t.lines.readbackB = s.lines.readbackB)
    (hm : t.alarms.isActive .unexpectedMovement none = s.alarms.isActive .unexpectedMovement none) :
    t.Settled where
  reasons := by rw [v.judge, hs]; exact h.reasons
  asserted := by rw [hs]; exact h.asserted
  driveA := by rw [hs]; exact h.driveA
  driveB := by rw [hs]; exact h.driveB
  timerA := by rw [hs, ha]; exact h.timerA
  timerB := by rw [hs, hb]; exact h.timerB
  phase := by rw [v.settledPhase hp, hp]; exact h.phase
  movement := by rw [v.movementOver hm]; exact h.movement

/-- The map class of each bay is that of the alignment of the record. -/
theorem State.mapClass_congr {s t : State}
    (h : t.berth.record.map (·.align) = s.berth.record.map (·.align)) (b : Nat) :
    t.mapClass b = s.mapClass b := by
  rw [State.mapClass_eq, State.mapClass_eq, h]

/-! ### The bay records after a change -/

theorem State.bay_congr {s t : State} (h : t.bays = s.bays) (b : Nat) : t.bay b = s.bay b := by
  unfold State.bay
  rw [h]

theorem getD_append_left {α : Type} (xs ys : List α) (d : α) {i : Nat} (h : i < xs.length) :
    (xs ++ ys).getD i d = xs.getD i d := by
  rw [List.getD, List.getD, List.getElem?_append_left h]

/-- A bay record beyond the 24 is blank. -/
theorem State.bay_beyond {s : State} {b : Nat} (h : s.bays.length < b) : s.bay b = Bay.blank 0 := by
  unfold State.bay
  rw [if_neg (by omega), List.getD, List.getElem?_eq_none (by omega)]
  rfl

/-- A change that leaves a field of the bay changed leaves that field of every bay. -/
theorem State.bay_setBay_field {α : Type} {s : State} (g : Bay → α) (b : Nat) (f : Bay → Bay)
    (hf : g (f (s.bay b)) = g (s.bay b)) (c : Nat) : g ((s.setBay b f).bay c) = g (s.bay c) := by
  by_cases h : c = b
  · subst h
    by_cases h1 : 1 ≤ c ∧ c ≤ s.bays.length
    · rw [State.bay_setBay_self f h1.1 h1.2, hf]
    · by_cases h0 : c = 0
      · subst h0
        rfl
      · rw [State.bay_beyond (by rw [State.setBay_length]; omega), State.bay_beyond (by omega)]
  · rw [State.bay_setBay_ne f h]

/-- A change of one bay record that leaves its state and gap check is not seen by the judgements. -/
theorem SameView.setBay {s : State} (b : Nat) (f : Bay → Bay)
    (hs : (f (s.bay b)).state = (s.bay b).state) (hg : (f (s.bay b)).gap = (s.bay b).gap) :
    SameView s (s.setBay b f) :=
  ⟨.inl rfl, State.bay_setBay_field Bay.state b f hs, State.bay_setBay_field Bay.gap b f hg, rfl, rfl,
    fun _ => rfl, rfl, rfl, rfl⟩

/-! ### What the end of a command leaves -/

section
variable (s : State)

theorem State.settleMovement_parts : ∃ a d, s.settleMovement = { s with alarms := a, send := d } := by
  unfold State.settleMovement
  split
  · exact ⟨_, _, rfl⟩
  · exact ⟨s.alarms, s.send, rfl⟩

theorem State.setPhase_parts (p : Phase) :
    ∃ c d, s.setPhase p = { s with berth := { s.berth with phase := p, clearFrom := c }, send := d } := by
  unfold State.setPhase
  split
  · rename_i h
    subst h
    exact ⟨s.berth.clearFrom, s.send, rfl⟩
  · exact ⟨_, _, rfl⟩

theorem State.settleSecure_eq :
    ∃ d, s.settleSecure = { s with secure := s.secure.form s.judge s.lines s.now, send := d } := by
  unfold State.settleSecure
  dsimp only
  split <;> exact ⟨_, rfl⟩

/-- The end of a command changes phase, secure state, alarms and frames alone. -/
theorem State.finish_parts : ∃ c a d, s.finish = { s with
    berth := { s.berth with phase := s.settledPhase, clearFrom := c }
    secure := s.secure.form s.judge s.lines s.now, alarms := a, send := d } := by
  obtain ⟨a, d, e⟩ := s.settleMovement_parts
  unfold State.finish State.settlePhase
  rw [e]
  generalize hu : ({ s with alarms := a, send := d } : State) = u
  have phase : u.settledPhase = s.settledPhase := by rw [← hu]; rfl
  obtain ⟨c, d', e'⟩ := u.setPhase_parts u.settledPhase
  rw [e', phase]
  obtain ⟨d'', e''⟩ := State.settleSecure_eq
    { u with berth := { u.berth with phase := s.settledPhase, clearFrom := c }, send := d' }
  refine ⟨c, a, d'', e''.trans ?_⟩
  subst hu
  rfl

@[simp] theorem State.finish_bays : s.finish.bays = s.bays := by
  obtain ⟨_, _, _, e⟩ := s.finish_parts
  rw [e]

@[simp] theorem State.finish_doors : s.finish.doors = s.doors := by
  obtain ⟨_, _, _, e⟩ := s.finish_parts
  rw [e]

@[simp] theorem State.finish_sense : s.finish.sense = s.sense := by
  obtain ⟨_, _, _, e⟩ := s.finish_parts
  rw [e]

@[simp] theorem State.finish_mode : s.finish.mode = s.mode := by
  obtain ⟨_, _, _, e⟩ := s.finish_parts
  rw [e]

@[simp] theorem State.finish_emer : s.finish.emer = s.emer := by
  obtain ⟨_, _, _, e⟩ := s.finish_parts
  rw [e]

@[simp] theorem State.finish_bus : s.finish.bus = s.bus := by
  obtain ⟨_, _, _, e⟩ := s.finish_parts
  rw [e]

@[simp] theorem State.finish_lines : s.finish.lines = s.lines := by
  obtain ⟨_, _, _, e⟩ := s.finish_parts
  rw [e]

@[simp] theorem State.finish_store : s.finish.store = s.store := by
  obtain ⟨_, _, _, e⟩ := s.finish_parts
  rw [e]

/-- The phase after the end of a command is the one the bays make it. -/
@[simp] theorem State.finish_phase : s.finish.berth.phase = s.settledPhase := by
  obtain ⟨_, _, _, e⟩ := s.finish_parts
  rw [e]

@[simp] theorem State.finish_secure : s.finish.secure = s.secure.form s.judge s.lines s.now := by
  obtain ⟨_, _, _, e⟩ := s.finish_parts
  rw [e]

theorem State.finish_alarms_eq : s.finish.alarms = s.settleMovement.alarms := by
  unfold State.finish
  rw [(s.settleMovement.settlePhase.settleSecure_parts).2.2.2.1]
  exact State.setPhase_alarms _ _

/-- Only UNEXPECTED_MOVEMENT can end with a command. -/
theorem State.finish_isActive {k : AlarmKind} (b : Option Nat) (hk : k ≠ .unexpectedMovement) :
    s.finish.alarms.isActive k b = s.alarms.isActive k b := by
  rw [State.finish_alarms_eq]
  unfold State.settleMovement
  split
  · exact AlarmState.clear_other _ fun e he _ => by simp [he, hk]
  · rfl

theorem State.finish_hasActive {k : AlarmKind} (b : Option Nat) (hk : k ≠ .unexpectedMovement) :
    s.finish.hasActive k b = s.hasActive k b := s.finish_isActive b hk

/-- An entry of another kind stands through the end of a command. -/
theorem State.finish_entry {e : AlarmEntry} (he : e ∈ s.alarms.entries)
    (hk : e.kind ≠ .unexpectedMovement) : e ∈ s.finish.alarms.entries := by
  rw [State.finish_alarms_eq]
  unfold State.settleMovement
  split
  · exact List.mem_map.2 ⟨e, he, if_neg (by simp [hk])⟩
  · exact he

@[simp] theorem State.finish_overflow : s.finish.alarms.overflow = s.alarms.overflow := by
  rw [State.finish_alarms_eq]
  unfold State.settleMovement
  split <;> rfl

end

/-- With the movement alarm as it was and no bay moved, no alarm ends with the command. -/
theorem State.finish_alarms {s : State} (h : s.movementOver = false) : s.finish.alarms = s.alarms := by
  rw [State.finish_alarms_eq]
  unfold State.settleMovement
  rw [h]
  rfl

/-- A phase that stands leaves the whole berth as it is. -/
theorem State.finish_berth {s : State} (h : s.settledPhase = s.berth.phase) :
    s.finish.berth = s.berth := by
  obtain ⟨a, d, e⟩ := s.settleMovement_parts
  unfold State.finish State.settlePhase
  rw [e]
  rw [(State.settleSecure_parts _).2.2.1]
  have stands : State.settledPhase { s with alarms := a, send := d } = s.berth.phase := h
  rw [stands]
  have same := congrArg State.berth (State.setPhase_self { s with alarms := a, send := d })
  exact same

/-! ### An event that leaves a settled part -/

theorem State.event_eq {s : State} (f : State → State) (hp : s.powered = true) :
    s.event f = (f s.begin_).finish := if_pos hp

theorem State.event_of_settled {s : State} {f : State → State} (hp : s.powered = true)
    (h : (f s.begin_).Settled) : s.event f = f s.begin_ := by
  rw [State.event_eq f hp, h.finish_eq]

/-- An event that changes nothing of a settled part leaves it, its frames gone. -/
theorem State.Inv.event_id {s : State} (inv : s.Inv) (hp : s.powered = true) :
    s.event id = s.begin_ := State.event_of_settled hp (inv.settled_begin hp)

end Sys2Proof.Machine
end

section
/-!
PROOFS. Frames that are no request (R139, R141, R150 to R152), and the requests that leave a settled part
settled: the reads (R154), HEARTBEAT and the watchdog (R135, R136), and the approach queue (R20 to R25).
-/
namespace Sys2Proof.Machine
open Sys2Proof

/-! ### The Train Link comes up (R141) -/

section
variable {s : State} (up : s.link.trainUp = true) (c : Bool)
include up

/-- A BERTH_REPORT that is due, while the link is UP, is among the frames sent. -/
theorem State.berthReportDue : ∃ x, (if c then s.sendBerthReport else s) = { s with send := x } ∧
    (c = true → ∃ g ∈ x.sent, g.port = .train ∧ g.body = .berthReport s.berthReport) := by
  cases c
  · exact ⟨s.send, rfl, fun h => Bool.noConfusion h⟩
  · unfold State.sendBerthReport
    rw [if_pos rfl, if_pos up]
    exact ⟨_, rfl, fun _ => ⟨_, List.mem_append_right _ (List.mem_singleton.2 rfl), rfl, rfl⟩⟩

/-- So is a DOOR_REPORT, after the frames already sent. -/
theorem State.doorReportDue : ∃ x, (if c then s.sendDoorReport else s) = { s with send := x } ∧
    (∀ g ∈ s.send.sent, g ∈ x.sent) ∧
    (c = true → ∃ g ∈ x.sent, g.port = .train ∧ g.body = .doorReport s.doorReport) := by
  cases c
  · exact ⟨s.send, rfl, fun _ h => h, fun h => Bool.noConfusion h⟩
  · unfold State.sendDoorReport
    rw [if_pos rfl, if_pos up]
    exact ⟨_, rfl, fun _ h => List.mem_append_left _ h,
      fun _ => ⟨_, List.mem_append_right _ (List.mem_singleton.2 rfl), rfl, rfl⟩⟩

end

/-- The DOOR_REPORT that a link coming up sends, where one is due. -/
def State.reportDoorsDue (s : State) : State :=
  if s.berth.phase.reportsDoors && s.doors.operation.isSome then s.sendDoorReport else s

/-- The link coming up ends TRAIN_LINK_LOST, and sends the reports due in the phase. -/
theorem State.trainUp_eq {s : State} (up : s.link.trainUp = true) :
    ∃ x, s.trainUp = { s with
        alarms := s.alarms.clear (fun e => decide (e.kind = .trainLinkLost) && decide (e.bay = none))
        send := x } ∧
      (s.berth.phase.reportsBerth = true →
        ∃ g ∈ x.sent, g.port = .train ∧ g.body = .berthReport s.berthReport) ∧
      (s.berth.phase.reportsDoors = true → s.doors.operation.isSome = true →
        ∃ g ∈ x.sent, g.port = .train ∧ g.body = .doorReport s.doorReport) := by
  have up' : (s.clear .trainLinkLost none).link.trainUp = true := up
  obtain ⟨x, e, berth⟩ := State.berthReportDue up' s.berth.phase.reportsBerth
  obtain ⟨y, e', kept, doors⟩ := State.doorReportDue
    (s := { s.clear .trainLinkLost none with send := x }) up
    (s.berth.phase.reportsDoors && s.doors.operation.isSome)
  refine ⟨y, ?_, fun due => ?_, fun due operation => doors (by rw [due, operation]; rfl)⟩
  · exact (congrArg State.reportDoorsDue e).trans e'
  · obtain ⟨g, sent, same⟩ := berth due
    exact ⟨g, kept g sent, same⟩

/-- With the Train Link DOWN, a frame on it brings it up. -/
theorem State.taken_trainDown {s : State} (h : s.link.trainUp = false) :
    ∃ x, s.taken .train = { s with
        link := { s.link with
          trainUp := true, trainLossAt := s.now + s.param .trainLoss, lastTrainFrame := some s.now }
        alarms := s.alarms.clear (fun e => decide (e.kind = .trainLinkLost) && decide (e.bay = none))
        send := x } ∧
      (s.berth.phase.reportsBerth = true →
        ∃ g ∈ x.sent, g.port = .train ∧ g.body = .berthReport s.berthReport) ∧
      (s.berth.phase.reportsDoors = true → s.doors.operation.isSome = true →
        ∃ g ∈ x.sent, g.port = .train ∧ g.body = .doorReport s.doorReport) := by
  unfold State.taken State.goodFrame State.trainFrame
  simp only [if_true, State.begin_link, h, Bool.false_eq_true, if_false]
  exact State.trainUp_eq (s := { s.begin_ with link := { s.link with
    trainUp := true, trainLossAt := s.now + s.param .trainLoss, lastTrainFrame := some s.now } }) rfl

/-- A frame that is no request does what its arrival does. -/
theorem exec_frameNotRequest {s : State} (inv : s.Inv) (hp : s.powered = true) (p : Port) (a k : Nat) :
    exec (.frameNotRequest p a k) s = .next (s.taken p) :=
  congrArg Host.Outcome.next (State.event_of_settled hp (inv.taken_settled hp p))

/-- Settles O14: a settled part is left as it is by what changes nothing, and the arrival of a frame
leaves it settled. -/
theorem framesThatAreNoRequestChangeNothing : Obligations.FramesThatAreNoRequestChangeNothing := by
  unfold Obligations.FramesThatAreNoRequestChangeNothing
  intro s inv powered
  refine ⟨fun p => ⟨_, congrArg Host.Outcome.next (inv.event_id powered), rfl⟩, fun p a k other => ?_,
    fun a k up => ?_, fun a k down => ?_,
    fun a k => ⟨_, congrArg Host.Outcome.next (inv.event_id powered), rfl⟩, fun r k address => ?_⟩
  · rw [exec_frameNotRequest inv powered, s.taken_other other]
    exact ⟨_, rfl, rfl⟩
  · rw [exec_frameNotRequest inv powered, State.taken_train up]
    exact ⟨_, rfl, rfl⟩
  · rw [exec_frameNotRequest inv powered]
    obtain ⟨x, e, reports⟩ := State.taken_trainDown down
    exact ⟨x, congrArg _ e, reports⟩
  · obtain ⟨same, replied⟩ := State.takeFrame_refused (k := k) inv powered address
      (decision := fun t => t.answer .format) rfl
    exact ⟨_, rfl, replied, same⟩

/-! ### Requests that no train may send -/

section
variable {s : State} {r : Req} {k : ReqKind} {owner : State → Answer}

/-- An answer that leaves the state as it stands. -/
theorem State.Accepts.request_answered (h : s.Accepts r k) (inv : s.Inv)
    (notTrain : k.allows .train = false) {x : Result} {d : Detail}
    (answered : owner s.begin_ = ⟨x, d, s.begin_⟩) :
    s.SameButSend (s.request_ r k owner) ∧ s.Replied (s.request_ r k owner) r k x d := by
  obtain ⟨d', decided, replied⟩ := h.request_settled notTrain (owner := owner)
    (by rw [answered]; exact inv.settled_begin h.powered)
  rw [answered] at decided replied
  rw [decided]
  exact ⟨⟨rfl, rfl, rfl, rfl, rfl, rfl, rfl⟩, replied⟩

/-- An answer whose state is settled, frames aside, is left as it is. -/
theorem State.Accepts.request_leaves (h : s.Accepts r k) (notTrain : k.allows .train = false)
    {x : Result} {d : Detail} {t : State} (settled : t.Settled)
    (answered : owner s.begin_ = ⟨x, d, t⟩) :
    ∃ y : SendState, s.request_ r k owner = { t with send := y } ∧ s.replyFrame r k.code x d ∈ y.sent := by
  obtain ⟨y, decided, replied⟩ := h.request_settled notTrain (owner := owner)
    (by rw [answered]; exact settled)
  rw [answered] at decided replied
  exact ⟨y, decided, replied⟩

end

/-! ### Reads (R154) -/

theorem State.probeOn_named {s : State} {c : Content} {slot : Nat} {o : Orientation} {d : Mm}
    (fitted : (c.profile slot).isEmpty = false) (low : -4000 ≤ d) (high : d ≤ 4000) :
    s.probeOn c ⟨slot, .named o, d⟩ = s.answerWith (.probe (probe c (s.probeBays c) slot o d)) := by
  unfold State.probeOn
  simp [fitted, usableOffset, offsetLimit, low, high]

theorem State.probeAlignment_working {s : State} (h : s.working = true) (f : ProbeFields) :
    s.probeAlignment f = s.probeOn s.content f := by
  unfold State.probeAlignment
  obtain m | m | m := s.working_iff.1 h <;> rw [m]

/-- Settles O15: each read answers with the state it leaves as it is. -/
theorem readsAndProbesChangeNothing : Obligations.ReadsAndProbesChangeNothing := by
  unfold Obligations.ReadsAndProbesChangeNothing
  refine ⟨fun s r inv => ⟨fun accepted => ⟨_, rfl, ?_⟩, fun accepted => ⟨_, rfl, ?_⟩,
    fun accepted => ⟨_, rfl, ?_⟩, fun b accepted => ⟨_, rfl, ?_⟩, fun p accepted => ⟨_, rfl, ?_⟩⟩,
    fun s r slot o d inv accepted working known low high => ⟨_, rfl, ?_⟩⟩
  · exact accepted.request_answered inv rfl rfl
  · exact accepted.request_answered inv rfl rfl
  · exact accepted.request_answered inv rfl rfl
  · split
    · rename_i inTable
      refine accepted.request_answered inv rfl ?_
      exact if_pos inTable
    · rename_i outside
      refine accepted.request_answered inv rfl ?_
      exact if_neg outside
  · by_cases position : 1 ≤ p ∧ p ≤ 48
    · rw [if_pos position]
      refine accepted.request_answered inv rfl ?_
      exact if_pos position
    · rw [if_neg position]
      refine accepted.request_answered inv rfl ?_
      exact if_neg position
  · refine accepted.request_answered inv rfl ?_
    rw [State.probeAlignment_working (s := s.begin_) working]
    exact State.probeOn_named (by simpa [State.profileKnown, State.content] using known) low high

/-! ### HEARTBEAT and the watchdog (R135, R136) -/

/-- LOCAL gives way to NORMAL, with a status; any other mode stands. -/
theorem State.localToNormal (s : State) : ∃ x, (if s.mode = .localMode then s.setMode .normal else s) =
    { s with mode := if s.mode = .localMode then .normal else s.mode, send := x } := by
  split
  · rename_i m
    unfold State.setMode
    rw [if_neg (by rw [m]; decide)]
    exact ⟨_, rfl⟩
  · exact ⟨_, rfl⟩

theorem State.heartbeat_eq (s : State) : ∃ x, s.heartbeat = { s with
    link := { s.link with watchdog := some (s.now + s.param .sigWatchdog) }
    mode := if s.mode = .localMode then .normal else s.mode
    alarms := s.alarms.clear (fun e => decide (e.kind = .sigLinkLost) && decide (e.bay = none))
    send := x } :=
  (State.clear .sigLinkLost none { s with link := { s.link with
    watchdog := some (s.now + s.param .sigWatchdog) } }).localToNormal

/-- NORMAL and LOCAL withhold secure alike. -/
theorem State.heartbeat_settled {s : State} (h : s.Settled) : s.heartbeat.Settled := by
  obtain ⟨x, e⟩ := s.heartbeat_eq
  rw [e]
  refine h.of_parts ⟨?_, rfl, rfl, fun _ => rfl, rfl, rfl, rfl⟩ rfl rfl rfl rfl
    (AlarmState.clear_movement _ _ (by decide))
  dsimp only
  split
  · rename_i m
    exact .inr ⟨.inl rfl, .inr m⟩
  · exact .inl rfl

/-- Settles O16: what HEARTBEAT does leaves a settled part settled. -/
theorem heartbeatRestartsTheWatchdog : Obligations.HeartbeatRestartsTheWatchdog := by
  unfold Obligations.HeartbeatRestartsTheWatchdog
  intro s r inv accepted
  obtain ⟨y, decided, replied⟩ := accepted.request_leaves rfl
    (owner := fun t => t.heartbeat.answer .done)
    (State.heartbeat_settled (inv.settled_begin accepted.powered)) rfl
  obtain ⟨x, e⟩ := s.begin_.heartbeat_eq
  rw [e] at decided
  exact ⟨y, congrArg _ decided, replied⟩

theorem State.signallingLost_eq (s : State) : ∃ x, s.signallingLost = { s with
    mode := if s.mode = .normal then .localMode else s.mode
    emer := { s.emer with context := if s.mode = .emergency then
      (s.emer.context.map fun c => if c.savedMode = .normal then { c with savedMode := .localMode } else c)
      else s.emer.context }
    send := x } := by
  unfold State.signallingLost
  split
  · rename_i m
    unfold State.setMode
    simp only [m, reduceCtorEq, if_false, if_true]
    exact ⟨_, rfl⟩
  · rename_i m
    simp only [m, reduceCtorEq, if_false, if_true]
    exact ⟨s.send, rfl⟩
  all_goals
    rename_i m
    simp only [m, reduceCtorEq, if_false]
    rw [← m]
    exact ⟨s.send, rfl⟩

/-- Settles O17: the fall from NORMAL to LOCAL and what the context saves bear on no judgement. -/
theorem watchdogExpiryFallsBack : Obligations.WatchdogExpiryFallsBack := by
  unfold Obligations.WatchdogExpiryFallsBack
  intro s m inv powered running past
  have due : s.begin_.pastEnd s.begin_.link.watchdog = true := by
    simp [State.pastEnd, running, past]
  obtain ⟨x, e⟩ := State.signallingLost_eq
    (State.raise .sigLinkLost none none { s.begin_ with link := { s.link with watchdog := none } })
  have effect : s.begin_.sigWatchdogExpiry = _ := (if_pos due).trans e
  have settled : s.begin_.sigWatchdogExpiry.Settled := by
    rw [effect]
    refine (inv.settled powered).of_parts ⟨?_, rfl, rfl, fun _ => rfl, rfl, rfl, rfl⟩ rfl rfl rfl rfl
      (AlarmState.raise_movement _ _ _ _ (by decide))
    show (if s.mode = .normal then Mode.localMode else s.mode) = s.mode ∨ _
    split
    · rename_i normal
      exact .inr ⟨.inr (if_pos normal), .inl normal⟩
    · exact .inl rfl
  refine ⟨x, congrArg Host.Outcome.next ?_⟩
  rw [State.event_of_settled powered settled, effect]
  rfl

/-! ### The approach queue (R20 to R25) -/

section
variable {s : State} {f : AppendFields} {o : Orientation} {k : ServiceKind}

/-- An append that passes the checks of R22 is decided by its number. -/
theorem State.appendApproach_checked (takes : s.takesAppends = true) (ho : f.orientation = .named o)
    (hk : f.service = .named k) (known : s.profileKnown f.profile = true)
    (sync : s.berth.syncLost = false) (room : s.berth.queue.length < 8)
    (fresh : ∀ y ∈ s.berth.queue, y.seq ≠ f.seq) :
    s.appendApproach f = s.sequenceAppend ⟨f.seq, f.trainId, f.profile, o, k, clampDwell f.dwell⟩
      (clampDwell f.dwell != f.dwell) := by
  have unique : (s.berth.queue.any fun y => y.seq == f.seq) = false := by simpa using fresh
  unfold State.appendApproach State.approachOf
  simp [takes, ho, hk, known, sync, unique, queueLimit, Nat.not_le.2 room]

/-- The queue of `s` with one record more, its number expected to be followed. -/
def State.joined (s : State) (a : Approach) : BerthState :=
  { s.berth with queue := s.berth.queue ++ [a], expected := some ((a.seq + 1) % 256) }

theorem State.joinQueue_after {a : Approach} (c : Bool)
    (tail : comesAfterTail s.berth.queue a.seq = true) :
    s.joinQueue a c = State.answer (State.sendStatus { s with berth := s.joined a })
      (if c then .clamped else .done) := if_pos tail

theorem State.sequenceAppend_inSequence {a : Approach} {c : Bool}
    (expected : s.berth.expected = none ∨ s.berth.expected = some a.seq) :
    s.sequenceAppend a c = s.joinQueue a c := by
  unfold State.sequenceAppend
  obtain e | e := expected <;> simp [e]

theorem State.sequenceAppend_outOfSequence {a : Approach} {c : Bool} {e : Nat}
    (expected : s.berth.expected = some e) (other : e ≠ a.seq) :
    s.sequenceAppend a c =
      if s.content.param .queuePolicy = 0 then s.loseSync.answer .seqError
      else (s.raise .queueGap none (some (.sequence e a.seq))).joinQueue a c := by
  unfold State.sequenceAppend
  simp [expected, other]

end

/-- Settles O18: the checks of R22 passed, an append in sequence joins at the tail. -/
theorem appendInSequenceJoinsTheQueue : Obligations.AppendInSequenceJoinsTheQueue := by
  unfold Obligations.AppendInSequenceJoinsTheQueue
  intro s r f o k inv accepted takes ho hk known sync room fresh expected tail
  have decision : s.begin_.appendApproach f = State.answer { s with
      berth := s.joined ⟨f.seq, f.trainId, f.profile, o, k, clampDwell f.dwell⟩, send := _ }
      (if clampDwell f.dwell != f.dwell then .clamped else .done) :=
    (State.appendApproach_checked (s := s.begin_) takes ho hk known sync room fresh).trans
      ((State.sequenceAppend_inSequence expected).trans (State.joinQueue_after _ tail))
  obtain ⟨x, decided, replied⟩ := accepted.request_writesBerth inv rfl decision rfl rfl
  refine ⟨x, congrArg Host.Outcome.next decided, ?_⟩
  by_cases same : clampDwell f.dwell = f.dwell
  · simpa [same] using replied
  · simpa [same] using replied

/-- Settles O19: out of sequence, STRICT loses the synchronism and LENIENT raises QUEUE_GAP and joins. -/
theorem appendOutOfSequenceFollowsThePolicy : Obligations.AppendOutOfSequenceFollowsThePolicy := by
  unfold Obligations.AppendOutOfSequenceFollowsThePolicy
  intro s r f o k e inv accepted takes ho hk known sync room fresh expected other
  have decision := (State.appendApproach_checked (s := s.begin_) takes ho hk known sync room fresh).trans
    (State.sequenceAppend_outOfSequence expected other)
  refine ⟨fun strict => ?_, fun lenient tail => ?_⟩
  · rw [if_pos (by exact strict)] at decision
    obtain ⟨x, decided, replied⟩ := accepted.request_writesBerth inv rfl decision rfl rfl
    exact ⟨x, congrArg Host.Outcome.next decided, replied⟩
  · rw [if_neg (by exact lenient), State.joinQueue_after _ tail] at decision
    have settled : State.Settled (State.sendStatus
        { s.begin_.raise .queueGap none (some (.sequence e f.seq)) with
          berth := s.joined ⟨f.seq, f.trainId, f.profile, o, k, clampDwell f.dwell⟩ }) :=
      (inv.settled accepted.powered).of_parts ⟨.inl rfl, rfl, rfl, fun _ => rfl, rfl, rfl, rfl⟩ rfl rfl
        rfl rfl (AlarmState.raise_movement _ _ _ _ (by decide))
    obtain ⟨x, decided, -⟩ := accepted.request_leaves rfl settled decision
    exact ⟨x, congrArg Host.Outcome.next decided⟩

/-- Settles O21: whether or not a status tells of it, the queue state is as RESYNC_QUEUE sets it. -/
theorem resyncSetsTheQueueState : Obligations.ResyncSetsTheQueueState := by
  unfold Obligations.ResyncSetsTheQueueState
  intro s r e c inv accepted working
  have decision : ∃ d, s.begin_.resyncQueue e (.named c) = State.answer { s with
      berth := { s.berth with
        queue := if decide (c = .yes) then [] else s.berth.queue, expected := e, syncLost := false }
      send := d } .done := by
    have working' : s.begin_.working = true := working
    unfold State.resyncQueue State.resync
    rw [working']
    dsimp only [Bool.not_true]
    rw [if_neg (by decide)]
    split <;> exact ⟨_, rfl⟩
  obtain ⟨d, decision⟩ := decision
  obtain ⟨x, decided, replied⟩ := accepted.request_writesBerth inv rfl decision rfl rfl
  refine ⟨x, congrArg Host.Outcome.next ?_, replied⟩
  simpa using decided

end Sys2Proof.Machine
end

section
/-!
PROOFS. Facts of arithmetic: the stop offset within the beam interval (R49), the bay map with its inhibit
list (R53 to R56), and the frame a receiver makes of the bytes of a frame (R150, R162).
-/
namespace Sys2Proof.Machine
open Sys2Proof

/-! ### The stop offset (R49) -/

theorem midpoint_within {lo hi : Int} (h : lo + 20 ≤ hi) : lo ≤ midpoint lo hi ∧ midpoint lo hi < hi := by
  show lo ≤ lo + (hi - lo) / 2 ∧ lo + (hi - lo) / 2 < hi
  omega

theorem confined_within {lo hi : Int} (h : lo + 20 ≤ hi) (x : Int) :
    lo ≤ max lo (min x (hi - 1)) ∧ max lo (min x (hi - 1)) < hi := by
  omega

/-- A beam interval is at least as wide as the beams are apart. -/
theorem beamInterval_wide {c : Content} {m : Nat} {lo hi : Mm}
    (apart : ∀ i, i < 15 → c.beam i + 20 ≤ c.beam (i + 1)) (h : beamInterval c m = some (lo, hi)) :
    lo + 20 ≤ hi := by
  unfold beamInterval at h
  split at h
  · rename_i inside
    obtain ⟨rfl, rfl⟩ := Prod.mk.inj (Option.some.inj h)
    have step := apart (m - 1) (by omega)
    rwa [Nat.sub_add_cancel inside.1] at step
  · cases h

/-- Settles O33: of the rows of R49 only those with a beam interval give a source other than the train
alone, and both figures they give lie in it. -/
theorem fusedOffsetLiesInTheBeamInterval : Obligations.FusedOffsetLiesInTheBeamInterval := by
  unfold Obligations.FusedOffsetLiesInTheBeamInterval
  intro c p t d src apart fused beams
  unfold fuse at fused
  dsimp only at fused
  split at fused
  · rename_i coherentPattern
    split at fused
    · rename_i lo hi x interval
      have wide := beamInterval_wide apart interval
      split at fused
      · obtain ⟨rfl, rfl⟩ := Prod.mk.inj (Option.some.inj fused)
        exact ⟨lo, hi, coherentPattern, interval, confined_within wide x⟩
      · obtain ⟨rfl, rfl⟩ := Prod.mk.inj (Option.some.inj fused)
        exact ⟨lo, hi, coherentPattern, interval, midpoint_within wide⟩
    · rename_i lo hi interval
      obtain ⟨rfl, rfl⟩ := Prod.mk.inj (Option.some.inj fused)
      exact ⟨lo, hi, coherentPattern, interval, midpoint_within (beamInterval_wide apart interval)⟩
    · split at fused
      · exact absurd (Prod.mk.inj (Option.some.inj fused)).2.symm beams
      · cases fused
    · cases fused
  · obtain ⟨x, -, e⟩ := Option.map_eq_some_iff.1 fused
    exact absurd (Prod.mk.inj e).2.symm beams

/-! ### The bay map (R53 to R56) -/

/-- The best bay is one of those given, and none of them overlaps the door more (R54). -/
theorem bestBay_spec {c : Content} {door : Span} {bs : List Nat} {b : Nat} {w : Mm}
    (h : bestBay c door bs = some (b, w)) :
    b ∈ bs ∧ w = overlap (c.baySpan b) door ∧ ∀ b' ∈ bs, overlap (c.baySpan b') door ≤ w := by
  induction bs generalizing b w with
  | nil => cases h
  | cons x xs ih =>
    unfold bestBay at h
    dsimp only at h
    split at h
    · rename_i b' w' rest
      obtain ⟨among, overlaps, most⟩ := ih rest
      split at h
      · rename_i more
        obtain ⟨rfl, rfl⟩ := Prod.mk.inj (Option.some.inj h)
        exact ⟨List.mem_cons_of_mem _ among, overlaps, List.forall_mem_cons.2 ⟨Int.le_of_lt more, most⟩⟩
      · rename_i enough
        obtain ⟨rfl, rfl⟩ := Prod.mk.inj (Option.some.inj h)
        exact ⟨List.mem_cons_self, rfl,
          List.forall_mem_cons.2 ⟨Int.le_refl _, fun y among => Int.le_trans (most y among) (Int.not_lt.1 enough)⟩⟩
    · rename_i rest
      obtain ⟨rfl, rfl⟩ := Prod.mk.inj (Option.some.inj h)
      cases xs with
      | nil => simp
      | cons y ys =>
        unfold bestBay at rest
        dsimp only at rest
        split at rest
        · split at rest <;> cases rest
        · cases rest

/-- A candidate is the best available bay, and reaches MIN_CLEAR (R54). -/
theorem candidate_eq_some {c : Content} {p : Profile} {avail : List Nat} {door : Span} {b : Nat} {w : Mm}
    (h : candidate c p avail door = some (b, w)) :
    bestBay c door avail = some (b, w) ∧ p.minClear ≤ w ∧ 0 < w := by
  unfold candidate at h
  split at h
  · rename_i b' w' best
    split at h
    · rename_i clear
      obtain ⟨rfl, rfl⟩ := Prod.mk.inj (Option.some.inj h)
      exact ⟨best, clear⟩
    · cases h
  · cases h

theorem mem_takersOf {fits : List DoorFit} {b k : Nat} {w : Mm} (h : (k, w) ∈ takersOf fits b) :
    ∃ f ∈ fits, f.door = k ∧ f.best = some (b, w) := by
  obtain ⟨f, among, e⟩ := List.mem_filterMap.1 h
  split at e
  · rename_i b' w' best
    split at e
    · rename_i same
      obtain ⟨rfl, rfl⟩ := Prod.mk.inj (Option.some.inj e)
      exact ⟨f, among, rfl, by rw [best, same]⟩
    · cases e
  · cases e

/-- Only an available bay with a door to itself is SERVED (R55). -/
theorem classOf_served {c : Content} {fits : List DoorFit} {avail : List Nat} {b k : Nat} {w : Mm}
    (h : classOf c fits avail b = .served k w) : b ∈ avail ∧ (k, w) ∈ takersOf fits b := by
  unfold classOf at h
  split at h
  · rename_i available
    refine ⟨by simpa using available, ?_⟩
    split at h
    · split at h <;> cases h
    · rename_i only
      obtain ⟨rfl, rfl⟩ := BayClass.served.inj h
      rw [only]
      exact List.mem_singleton.2 rfl
    · cases h
  · cases h

section
variable {c : Content} {p : Profile} {o : Orientation} {d : Mm} {avail : List Nat} {b k : Nat} {w : Mm}

/-- A bay is SERVED by a door of the train whose candidate it is. -/
theorem bayMap_served (hb : 1 ≤ b) (h : (bayMap c p o d avail)[b - 1]? = some (.served k w)) :
    b ∈ avail ∧ k ∈ upTo p.count ∧ candidate c p avail (platformSpan p o d k) = some (b, w) := by
  unfold bayMap at h
  rw [List.getElem?_map] at h
  obtain ⟨b', place, served⟩ := Option.map_eq_some_iff.1 h
  have same : b' = b := by
    unfold upTo at place
    rw [List.getElem?_map] at place
    obtain ⟨i, at_, e⟩ := Option.map_eq_some_iff.1 place
    obtain ⟨_, e'⟩ := List.getElem?_eq_some_iff.1 at_
    rw [List.getElem_range] at e'
    omega
  subst same
  obtain ⟨available, taker⟩ := classOf_served served
  obtain ⟨f, among, rfl, best⟩ := mem_takersOf taker
  obtain ⟨k', door, rfl⟩ := List.mem_map.1 among
  exact ⟨available, door, best⟩

end

/-- Settles O34: a SERVED bay is the candidate of its door. -/
theorem servedBayFitsItsDoor : Obligations.ServedBayFitsItsDoor := by
  unfold Obligations.ServedBayFitsItsDoor
  intro c p o d avail b k w hb served
  obtain ⟨available, door, fits⟩ := bayMap_served hb served
  obtain ⟨best, clear, positive⟩ := candidate_eq_some fits
  obtain ⟨-, overlaps, most⟩ := bestBay_spec best
  obtain ⟨low, high⟩ := mem_upTo.1 door
  exact ⟨available, low, high, overlaps, clear, positive, most⟩

theorem BayClass.serves_iff {k : Nat} {x : BayClass} : x.serves k = true ↔ ∃ w, x = .served k w := by
  cases x <;> simp [BayClass.serves]

/-- Settles O35: a door has at most one candidate, and the inhibit list leaves out those whose candidate
is SERVED. -/
theorem inhibitListIsTheRest : Obligations.InhibitListIsTheRest := by
  unfold Obligations.InhibitListIsTheRest
  refine fun c p o d avail => ⟨fun b b' k w w' hb hb' served served' => ?_, fun k => ?_⟩
  · obtain ⟨-, -, fits⟩ := bayMap_served hb served
    obtain ⟨-, -, fits'⟩ := bayMap_served hb' served'
    exact (Prod.mk.inj (Option.some.inj (fits.symm.trans fits'))).1
  · have matched : ((bayMap c p o d avail).any (·.serves k) = true) ↔
        ∃ b w, 1 ≤ b ∧ (bayMap c p o d avail)[b - 1]? = some (.served k w) := by
      simp only [List.any_eq_true, BayClass.serves_iff]
      refine ⟨fun ⟨_, among, w, e⟩ => ?_, fun ⟨_, w, _, e⟩ => ⟨_, List.mem_of_getElem? e, w, rfl⟩⟩
      obtain ⟨i, place⟩ := List.getElem?_of_mem among
      exact ⟨i + 1, w, Nat.succ_pos i, e ▸ place⟩
    unfold inhibitList
    rw [List.mem_filter, mem_upTo, ← matched, and_assoc]
    simp

/-! ### A frame received (R150, R162) -/

/-- The bytes of a frame from its address to the end of its payload. -/
def frameBody (addr kind tag : Nat) (payload : List Byte) : List Byte :=
  [natByte addr, natByte kind, natByte tag, natByte payload.length] ++ payload

/-- The bytes of a frame after its marker. -/
def frameRest (addr kind tag : Nat) (payload : List Byte) : List Byte :=
  frameBody addr kind tag payload ++ bytesOf 2 ((crc16 (frameBody addr kind tag payload)).toNat : Int)

theorem frameBytes_eq (addr kind tag : Nat) (payload : List Byte) :
    frameBytes addr kind tag payload = startMarker :: frameRest addr kind tag payload := rfl

/-- The two check bytes read back as the check. -/
theorem natOfBytes_bytesOf_two (x : BitVec 16) : natOfBytes (bytesOf 2 (x.toNat : Int)) = x.toNat := by
  have small := x.isLt
  simp only [bytesOf, natOfBytes, List.foldl_cons, List.foldl_nil, BitVec.toNat_ofInt]
  omega

section
variable {addr kind tag : Nat} {payload : List Byte}

theorem frameRest_length : (frameRest addr kind tag payload).length = payload.length + 6 := by
  simp only [frameRest, frameBody, bytesOf, List.length_append, List.length_cons, List.length_nil]
  omega

/-- A whole frame with its check is good. -/
theorem wholeFrame_frameRest : wholeFrame (frameRest addr kind tag payload) =
    .good ⟨natByte addr, natByte kind, natByte tag, payload⟩ := by
  have body : (frameRest addr kind tag payload).length - 2 = (frameBody addr kind tag payload).length := by
    rw [frameRest_length]
    simp [frameBody]
  unfold wholeFrame
  dsimp only
  rw [body, frameRest, List.take_left, List.drop_left, if_pos (natOfBytes_bytesOf_two _)]
  rfl

variable (short : payload.length ≤ 200)
include short

/-- What has been taken of a frame holds its length byte once it is four bytes long. -/
theorem taken_lengthByte {now rest : List Byte} (split : now ++ rest = frameRest addr kind tag payload)
    (four : 4 ≤ now.length) : (now.getD 3 0#8).toNat = payload.length := by
  have same : now.getD 3 0#8 = (frameRest addr kind tag payload).getD 3 0#8 := by
    rw [← split, getD_append_left now rest 0#8 (by omega)]
  rw [same]
  show (BitVec.ofNat 8 payload.length).toNat = payload.length
  rw [BitVec.toNat_ofNat]
  omega

theorem taken_notOverlong {now rest : List Byte} (split : now ++ rest = frameRest addr kind tag payload) :
    overlong now = false := by
  unfold overlong
  by_cases four : 4 ≤ now.length
  · rw [taken_lengthByte short split four]
    simp [payloadLimit, Nat.not_lt.2 short]
  · simp [four]

theorem taken_isWhole {now rest : List Byte} (split : now ++ rest = frameRest addr kind tag payload) :
    isWhole now = rest.isEmpty := by
  have lengths : now.length + rest.length = payload.length + 6 := by
    rw [← List.length_append, split, frameRest_length]
  unfold isWhole
  by_cases four : 4 ≤ now.length
  · rw [taken_lengthByte short split four, Bool.eq_iff_iff]
    simp only [four, decide_true, Bool.true_and, beq_iff_eq, List.isEmpty_iff, ← List.length_eq_zero_iff]
    omega
  · have more : rest ≠ [] := by
      rintro rfl
      simp at lengths
      omega
    simp [four, more]

/-- The bytes of a frame from any place inside it on, none late, end in the command of that frame. -/
theorem commandsOf_inside (p : Port) (strap : Nat) {rest taken : List Byte} {times : List Millis}
    {last : Millis} (split : taken ++ rest = frameRest addr kind tag payload) (more : rest ≠ [])
    (enough : times.length = rest.length)
    (inTime : ∀ i, i + 1 < (last :: times).length →
      (last :: times).getD (i + 1) 0 ≤ (last :: times).getD i 0 + 5) :
    commandsOf p strap (.inside taken last) (rest.zip times) =
      [RawFrame.command p strap ⟨natByte addr, natByte kind, natByte tag, payload⟩] := by
  induction rest generalizing taken times last with
  | nil => exact absurd rfl more
  | cons b bs ih =>
    cases times with
    | nil => cases enough
    | cons at_ times =>
      have soon : at_ ≤ last + 5 := inTime 0 (Nat.succ_lt_succ (Nat.zero_lt_succ _))
      have split' : (taken ++ [b]) ++ bs = frameRest addr kind tag payload := by
        rw [List.append_assoc]; exact split
      have notLate : ¬ last + byteGapMs < at_ := Nat.not_lt.2 soon
      have notOverlong := taken_notOverlong short split'
      have whole := taken_isWhole short split'
      rw [List.zip_cons_cons]
      unfold commandsOf Receiver.take
      dsimp only
      rw [if_neg notLate, notOverlong, whole, if_neg Bool.false_ne_true]
      cases bs with
      | nil =>
        rw [List.append_nil] at split'
        rw [split', wholeFrame_frameRest]
        rfl
      | cons b' bs =>
        exact ih split' (List.cons_ne_nil _ _) (Nat.succ.inj enough)
          fun i within => inTime (i + 1) (Nat.succ_lt_succ within)

end

/-- Settles O60: the marker takes the receiver inside the frame, the last byte makes it whole, and no byte
between ends it. -/
theorem aReceivedFrameIsTheFrameSent : Obligations.AReceivedFrameIsTheFrameSent := by
  unfold Obligations.AReceivedFrameIsTheFrameSent
  intro p strap addr kind tag payload times _ _ _ short enough inTime
  cases times with
  | nil => cases enough
  | cons first times =>
    have lengths : times.length = (frameRest addr kind tag payload).length := by
      rw [frameRest_length]
      exact Nat.succ.inj enough
    rw [frameBytes_eq, List.zip_cons_cons]
    exact commandsOf_inside short p strap (taken := []) rfl (List.cons_ne_nil _ _) lengths inTime

end Sys2Proof.Machine
end

section
/-!
PROOFS. Commands whose effect leaves the phase and the movement alarm as they are: the identity and the
dwell of the berth (R31, R42), the lines and the output fault (R115, R116, R151, R153), and an intrusion
confirmed and cleared (R106, R107).
-/
namespace Sys2Proof.Machine
open Sys2Proof

/-! ### The end of a command that forms the secure state alone -/

/-- Where phase and movement alarm stand, the end of a command forms the secure state and no more. -/
theorem State.finish_quiet {s : State} (phase : s.settledPhase = s.berth.phase)
    (movement : s.movementOver = false) :
    ∃ d, s.finish = { s with secure := s.secure.form s.judge s.lines s.now, send := d } := by
  have alarms : s.settleMovement = s := by
    unfold State.settleMovement
    rw [movement]
    rfl
  unfold State.finish State.settlePhase
  rw [alarms, phase, State.setPhase_self]
  exact s.settleSecure_eq

/-- The end of an unexpected movement is judged by the bay states and its own alarm. -/
theorem State.movementOver_congr {s t : State} (state : ∀ b, (t.bay b).state = (s.bay b).state)
    (count : t.doors.count = s.doors.count) (alarm : t.alarms.isActive .unexpectedMovement none =
      s.alarms.isActive .unexpectedMovement none) : t.movementOver = s.movementOver := by
  have active : t.hasActive .unexpectedMovement none = s.hasActive .unexpectedMovement none := alarm
  unfold State.movementOver State.tableBays State.bayIs
  simp only [active, count, state]

/-- So it stays out where those stand. -/
theorem State.Settled.noMovement {s t : State} (h : s.Settled)
    (state : ∀ b, (t.bay b).state = (s.bay b).state) (count : t.doors.count = s.doors.count)
    (alarm : t.alarms.isActive .unexpectedMovement none = s.alarms.isActive .unexpectedMovement none) :
    t.movementOver = false :=
  (State.movementOver_congr state count alarm).trans h.movement

/-- What the secure state of a settled part becomes where the judgement stands and a readback may have
changed: the disagreement timers alone follow. -/
theorem State.Settled.form_eq {s : State} (h : s.Settled) (l : Lines) :
    s.secure.form s.judge l s.now = { s.secure with
      disagreeA := disagreement s.secure.driveA l.readbackA s.secure.disagreeA s.now
      disagreeB := disagreement s.secure.driveB l.readbackB s.secure.disagreeB s.now } := by
  obtain ⟨reasons, asserted, driveA, driveB, -, -, -, -⟩ := h
  rw [← reasons]
  clear reasons
  generalize s.secure = x at *
  obtain ⟨_, _, _, _, _, _, _, _, _⟩ := x
  dsimp only at asserted driveA driveB
  subst driveA driveB asserted
  unfold SecureState.form
  rw [if_pos rfl]

/-! ### CONFIRM_BERTH in ARRIVING (R31) -/

section
variable {s : State} {slot : Nat} {o : Orientation} {b : Berth}

theorem State.confirmBerth_arriving (working : s.working = true) (phase : s.berth.phase = .arriving)
    (record : s.berth.record = some b) (noStop : s.berth.pendingStop = false)
    (known : s.profileKnown slot = true) :
    s.confirmBerth slot (.named o) = State.answer (State.clear .identityMismatch none { s with
      berth := { s.berth with record := some (b.confirm slot o) } }) .done := by
  unfold State.confirmBerth State.knownTrain State.confirm State.settlePending
  simp [working, phase, record, noStop, known]

theorem Berth.confirm_eq (r : Berth) (slot : Nat) (o : Orientation) : r.confirm slot o = { r with
    profile := some slot, orientation := some o, confirmed := true, disputed := false
    trainId := if r.identifiedId.isSome then r.identifiedId else r.trainId } := by
  unfold Berth.confirm
  cases r.identifiedId <;> rfl

end

/-- Settles O25: with no stop pending no alignment follows, and the identity is read by no judgement. -/
theorem confirmBerthSettlesTheIdentity : Obligations.ConfirmBerthSettlesTheIdentity := by
  unfold Obligations.ConfirmBerthSettlesTheIdentity
  intro s r slot o b inv accepted working phase record noStop known
  have decision := State.confirmBerth_arriving (s := s.begin_) (o := o) working phase record noStop known
  have settled : State.Settled (State.clear .identityMismatch none { s.begin_ with
      berth := { s.begin_.berth with record := some (b.confirm slot o) } }) :=
    (inv.settled_begin accepted.powered).of_parts
      ⟨.inl rfl, rfl, rfl, State.mapClass_congr (by
        show some (b.confirm slot o).align = s.berth.record.map (·.align)
        rw [record]; rfl), rfl, rfl, rfl⟩ rfl rfl rfl rfl
      (AlarmState.clear_movement _ _ (by decide))
  obtain ⟨x, decided, replied⟩ := accepted.request_leaves rfl settled decision
  rw [b.confirm_eq] at decided
  exact ⟨x, congrArg Host.Outcome.next decided, replied⟩

/-! ### DWELL_EXPIRY (R42) -/

section
variable {e : SendEnv} {x : NoticeDetail} {d : SendState}

/-- A notice for a port that may receive it, its interval idle, goes out at once. -/
theorem SendState.noticeTo_idle {p : Port} {f : Fold} (may : d.mayReceive e p x.cls = true)
    (fold : (d.port p).folds.get x.cls = some f) (idle : f.until_ = none) :
    d.noticeTo e p x = (d.emit p ⟨x.cls, 0, x⟩).setPort p fun q =>
      { q with folds := q.folds.set x.cls ⟨some (e.now + e.interval), none, 0⟩ } := by
  unfold SendState.noticeTo SendState.make
  rw [if_pos may, fold]
  dsimp only
  rw [idle]

theorem SendState.queueNotice_sent (n : Notice) : (d.queueNotice n).sent = d.sent := by
  unfold SendState.queueNotice
  split <;> rfl

/-- A notice for the Station Link sends no frame of itself. -/
theorem SendState.noticeTo_station_sent : (d.noticeTo e .station x).sent = d.sent := by
  unfold SendState.noticeTo SendState.make
  split
  · split
    · exact SendState.queueNotice_sent _
    · split
      · exact SendState.queueNotice_sent _
      · rfl
  · rfl

/-- A notice for the Train Link leaves the Station Link as it is. -/
theorem SendState.noticeTo_train_station : (d.noticeTo e .train x).station = d.station := by
  unfold SendState.noticeTo SendState.make
  split
  · split
    · rfl
    · split <;> rfl
  · rfl

/-- A notice queued is in the outbox. -/
theorem SendState.mem_queueNotice (n : Notice) : n ∈ (d.queueNotice n).outbox := by
  unfold SendState.queueNotice
  split <;> exact List.mem_append_right _ (List.mem_singleton.2 rfl)

end

theorem State.dwellExpiry_due {s : State} {b : Berth} {m : Millis} (record : s.berth.record = some b)
    (runs : b.dwellFrom = some m) (past : m + b.dwell.getD 0 * 1000 ≤ s.now) :
    s.dwellExpiry = State.dwellNotice (.dwell b.trainId) { s with
      berth := { s.berth with record := some { b with dwellFrom := none } } } := by
  have due : s.dwellDue = true := by
    simp [State.dwellDue, record, State.elapsedFrom, State.elapsed, runs, past]
  unfold State.dwellExpiry State.setRecord
  rw [if_pos due, record]
  rfl

/-- Settles O30: the dwell timer is read by no judgement, and each notice goes as its port allows. -/
theorem dwellExpiryStopsTheTimer : Obligations.DwellExpiryStopsTheTimer := by
  unfold Obligations.DwellExpiryStopsTheTimer
  intro s b m inv powered record runs past
  have effect := State.dwellExpiry_due (s := s.begin_) record runs past
  have settled : s.begin_.dwellExpiry.Settled := by
    rw [effect]
    exact (inv.settled powered).of_berth _ rfl (by rw [record]; rfl)
  refine ⟨_, congrArg Host.Outcome.next ((State.event_of_settled powered settled).trans effect), rfl,
    fun up mask idle => ?_, fun mask idle => ?_⟩
  · rw [SendState.noticeTo_station_sent, SendState.noticeTo_idle (f := s.send.train.folds.dwell) ?_ rfl idle]
    · exact List.mem_append_right _ (List.mem_singleton.2 rfl)
    · show (s.send.train.mask.dwell && (Port.train != .train || s.link.trainUp)) = true
      rw [mask, up]
      rfl
  · rw [SendState.noticeTo_idle (f := s.send.station.folds.dwell) ?_ ?_ idle]
    · exact SendState.mem_queueNotice _
    · unfold SendState.mayReceive SendState.port
      rw [SendState.noticeTo_train_station]
      show (s.send.station.mask.dwell && (Port.station != .train || s.link.trainUp)) = true
      rw [mask]
      rfl
    · unfold SendState.port
      rw [SendState.noticeTo_train_station]
      rfl

/-! ### The lines (R115, R151, R153) -/

/-- A change of the lines that a settled part does not read leaves it settled. -/
theorem State.Settled.of_lines {s : State} (h : s.Settled) {l : Lines} {x : LinkState}
    (ha : l.readbackA = s.lines.readbackA) (hb : l.readbackB = s.lines.readbackB) :
    State.Settled { s with lines := l, link := x } :=
  h.of_parts ⟨.inl rfl, rfl, rfl, fun _ => rfl, rfl, rfl, rfl⟩ rfl rfl ha hb rfl

/-- A readback starts or stops the disagreement timer of its channel, and nothing else follows. -/
theorem exec_readbackChange {s : State} (inv : s.Inv) (powered : s.powered = true) (c : Channel)
    (v : Bool) : ∃ x, exec (.readbackChange c v) s = .next { s with
      lines := setReadback c v s.lines
      secure := s.secure.form s.judge (setReadback c v s.lines) s.now
      send := x } := by
  have h := inv.settled powered
  obtain ⟨d, e⟩ := State.finish_quiet
    (s := { s.begin_ with lines := setReadback c v s.lines }) h.phase h.movement
  exact ⟨d, congrArg Host.Outcome.next ((if_pos powered).trans e)⟩

/-- The timer of a channel follows its drive and readback. -/
theorem disagreement_eq (drive v : Bool) (t : Option Millis) (n : Millis) :
    disagreement drive v t n = if v = drive then none else some (t.getD n) := by
  cases drive <;> cases v <;> rfl

/-! ### The output fault (R116) -/

theorem State.judge_latched (s : State) : s.judge.outputFault = s.secure.latched := by
  unfold State.judge
  cases s.mode <;> rfl

theorem Reasons.isEmpty_of_outputFault {r : Reasons} (h : r.outputFault = true) : r.isEmpty = false := by
  unfold Reasons.isEmpty
  rw [h]
  simp

theorem SecureState.latch_names (c : Channel) (x : SecureState) : (x.latch c).names c = true := by
  cases c <;> rfl

theorem SecureState.latch_keeps {c : Channel} (c' : Channel) {x : SecureState} (h : x.names c = true) :
    (x.latch c').names c = true := by
  cases c <;> cases c' <;> first | rfl | exact h

theorem SecureState.latched_of_names {c : Channel} {x : SecureState} (h : x.names c = true) :
    x.latched = true := by
  unfold SecureState.latched
  cases c
  · rw [show x.latchA = true from h, Bool.true_or]
  · rw [show x.latchB = true from h, Bool.or_true]

/-- An output fault that is due changes latch, alarms and frames: the latch names the channel, and the
other where it is due too. -/
theorem State.outputFault_due {s : State} {c : Channel} (due : s.outputFaultDue c = true) :
    ∃ x d, s.outputFault c = { s with
        secure := x
        alarms := if s.outputFaultDue (otherChannel c) = true then
          ((s.alarms.raise .outputFault none (some (s.latchDetail c)) s.seconds).1.raise .outputFault none
            (some (s.latchDetail (otherChannel c))) s.seconds).1
          else (s.alarms.raise .outputFault none (some (s.latchDetail c)) s.seconds).1
        send := d } ∧
      x.names c = true ∧ (s.outputFaultDue (otherChannel c) = true → x.names (otherChannel c) = true) := by
  have detail : (s.latchFault c).latchDetail (otherChannel c) = s.latchDetail (otherChannel c) := by
    cases c <;> rfl
  unfold State.outputFault
  rw [if_pos due]
  dsimp only
  split
  · have e : (s.latchFault c).latchFault (otherChannel c) = State.raise .outputFault none
        (some (s.latchDetail (otherChannel c)))
        { s.latchFault c with secure := (s.secure.latch c).latch (otherChannel c) } := by
      rw [← detail]
      rfl
    exact ⟨(s.secure.latch c).latch (otherChannel c), _, e,
      SecureState.latch_keeps _ (SecureState.latch_names c _), fun _ => SecureState.latch_names _ _⟩
  · rename_i one
    exact ⟨s.secure.latch c, _, rfl, SecureState.latch_names c _, fun both => absurd both one⟩

/-- A raise of OUTPUT_FAULT, or two, leave the movement alarm. -/
theorem AlarmState.outputFaults_movement (a : AlarmState) (c : Bool) (d d' : Option AlarmDetail)
    (n : Seconds) : (if c = true then ((a.raise .outputFault none d n).1.raise .outputFault none d' n).1
      else (a.raise .outputFault none d n).1).isActive .unexpectedMovement none =
      a.isActive .unexpectedMovement none := by
  have one := AlarmState.raise_movement a none d n (k := .outputFault) (by decide)
  cases c
  · exact one
  · exact (AlarmState.raise_movement _ _ _ _ (by decide)).trans one

/-- Settles O54: KEY and straps are read by no judgement, a readback by the disagreement timers alone, and
the output fault withholds secure by its latch. -/
theorem linesActAsTheirRulesSay : Obligations.LinesActAsTheirRulesSay := by
  unfold Obligations.LinesActAsTheirRulesSay
  intro s inv powered
  have settled := inv.settled_begin powered
  refine ⟨fun k => ⟨{ s.send with sent := [] }, ?_⟩, fun a => ⟨{ s.send with sent := [] }, ?_⟩,
    fun v => ?_, fun v => ?_, fun c due => ?_⟩
  · exact congrArg Host.Outcome.next (State.event_of_settled powered (settled.of_lines rfl rfl))
  · exact congrArg Host.Outcome.next (State.event_of_settled powered (settled.of_lines rfl rfl))
  · have other : disagreement s.secure.driveB (setReadback .a v s.lines).readbackB s.secure.disagreeB
        s.now = s.secure.disagreeB := disagreement_same s.now (inv.settled powered).timerB
    obtain ⟨x, e⟩ := exec_readbackChange inv powered .a v
    rw [(inv.settled powered).form_eq, other, disagreement_eq] at e
    exact ⟨x, e⟩
  · have other : disagreement s.secure.driveA (setReadback .b v s.lines).readbackA s.secure.disagreeA
        s.now = s.secure.disagreeA := disagreement_same s.now (inv.settled powered).timerA
    obtain ⟨x, e⟩ := exec_readbackChange inv powered .b v
    rw [(inv.settled powered).form_eq, other, disagreement_eq] at e
    exact ⟨x, e⟩
  · obtain ⟨x, d, effect, names, both⟩ := State.outputFault_due (s := s.begin_) due
    have movement : (s.begin_.outputFault c).movementOver = false := by
      rw [effect]
      exact (inv.settled powered).noMovement (fun _ => rfl) rfl
        (AlarmState.outputFaults_movement _ _ _ _ _)
    obtain ⟨y, e⟩ := State.finish_quiet (s := s.begin_.outputFault c)
      (by rw [effect]; exact settled.phase) movement
    have fault : (s.begin_.outputFault c).judge.outputFault = true := by
      rw [State.judge_latched, effect]
      exact SecureState.latched_of_names names
    have withheld := Reasons.isEmpty_of_outputFault fault
    refine ⟨_, congrArg Host.Outcome.next ((State.event_eq _ powered).trans e), ?_, ?_, fault, withheld,
      withheld, withheld, ?_, ?_, ?_, ?_, ?_⟩
    · rw [effect]
      exact (by cases c <;> exact names)
    · rw [effect]
      exact fun other => by cases c <;> exact both other
    all_goals
      rw [effect]
      rfl

end Sys2Proof.Machine
end

section
/-!
PROOFS. The intrusion of a vacant platform (R106 to R108), the three requests to the Alarm List (R168) and
SET_NOTICE_MASK (R159).
-/
namespace Sys2Proof.Machine
open Sys2Proof

/-! ### The intrusion (R106, R107) -/

theorem State.settledPhase_vacant {s : State} (h : s.berth.phase = .vacant) :
    s.settledPhase = s.berth.phase := by
  unfold State.settledPhase
  rw [h]

/-- Intrusion is watched in VACANT alone. -/
theorem State.watch_vacant {s : State} {w : Millis} (h : s.watch = some w) : s.berth.phase = .vacant := by
  unfold State.watch at h
  split at h
  · rename_i watched
    exact watched.1
  · cases h

theorem State.intrusionDue_parts {s : State} {b : Nat} (h : s.intrusionDue b = true) :
    s.berth.phase = .vacant ∧ s.inTable b = true := by
  unfold State.intrusionDue at h
  split at h
  · cases h
  · rename_i w watch
    simp only [Bool.and_eq_true] at h
    obtain ⟨⟨⟨inTable, -⟩, -⟩, -⟩ := h
    exact ⟨State.watch_vacant watch, inTable⟩

theorem State.intrusionClearDue_vacant {s : State} (h : s.intrusionClearDue = true) :
    s.berth.phase = .vacant := by
  unfold State.intrusionClearDue at h
  split at h
  · cases h
  · rename_i w watch
    exact State.watch_vacant watch

/-- A change of every bay record alike changes each bay, where it leaves a blank record. -/
theorem State.bay_mapBays {s : State} {f : Bay → Bay} (blank : f (Bay.blank 0) = Bay.blank 0) (b : Nat) :
    (s.mapBays f).bay b = f (s.bay b) := by
  unfold State.bay State.mapBays
  split
  · exact blank.symm
  · rw [List.getD, List.getD, List.getElem?_map]
    cases s.bays[b - 1]? with
    | none => exact blank.symm
    | some y => rfl

/-- The watch that starts afresh leaves the states of the bays. -/
theorem State.startWatch_bay (s : State) (b : Nat) :
    s.startWatch.bay b = { s.bay b with zoneConfirmed := false } :=
  State.bay_mapBays (s := { s with sense := { s.sense with watchStart := some s.now } })
    (f := fun y => { y with zoneConfirmed := false }) rfl b

/-- Settles O52: an intrusion changes no bay state and no phase, so the end of the command judges secure
alone. -/
theorem intrusionIsConfirmedAndCleared : Obligations.IntrusionIsConfirmedAndCleared := by
  unfold Obligations.IntrusionIsConfirmedAndCleared
  intro s inv shaped powered
  have settled := inv.settled powered
  refine ⟨fun b limit due => ?_, fun due => ?_⟩
  · obtain ⟨vacant, inTable⟩ := State.intrusionDue_parts due
    have low : 1 ≤ b := (of_decide_eq_true inTable).1
    have effect : s.begin_.trackIntrusion b = State.raise .trackIntrusion none (some (.bay b))
        { s.begin_.setBay b fun x => { x with zoneConfirmed := true } with
          sense := { s.sense with intrusion := .active, lastBay := some b } } := if_pos due
    obtain ⟨d, e⟩ := State.finish_quiet (s := s.begin_.trackIntrusion b)
      (State.settledPhase_vacant (by rw [effect]; exact vacant))
      (by
        rw [effect]
        exact settled.noMovement (State.bay_setBay_field (s := s) Bay.state b _ rfl) rfl
          (AlarmState.raise_movement _ _ _ _ (by decide)))
    refine ⟨_, congrArg Host.Outcome.next ((State.event_eq _ powered).trans e), ?_⟩
    rw [effect]
    exact ⟨rfl, rfl, State.bay_setBay_self (s := s) _ low (by rw [shaped]; exact limit),
      fun c other => State.bay_setBay_ne (s := s) _ other, rfl, rfl, rfl⟩
  · have effect : s.begin_.intrusionClear = State.startWatch (State.clear .trackIntrusion none
        { s.begin_ with sense := { s.sense with intrusion := .clear } }) := if_pos due
    obtain ⟨d, e⟩ := State.finish_quiet (s := s.begin_.intrusionClear)
      (State.settledPhase_vacant (by rw [effect]; exact State.intrusionClearDue_vacant (s := s) due))
      (by
        rw [effect]
        refine settled.noMovement (fun b => ?_) rfl (AlarmState.clear_movement _ _ (by decide))
        rw [State.startWatch_bay]
        rfl)
    refine ⟨_, congrArg Host.Outcome.next ((State.event_eq _ powered).trans e), ?_⟩
    rw [effect]
    exact ⟨rfl, AlarmState.clear_self _ fun e kind bay => by simp [kind, bay],
      fun b => State.startWatch_bay _ b, rfl, rfl, rfl⟩

/-! ### ACK_NEXT (R168, R108) -/

theorem ackFirst_eq {pre post : List AlarmEntry} {e : AlarmEntry}
    (before : ∀ x ∈ pre, x.acked = true) (unacked : e.acked = false) :
    ackFirst (pre ++ e :: post) =
      some (pre ++ { e with acked := true } :: post, { e with acked := true }) := by
  induction pre with
  | nil => simp [ackFirst, unacked]
  | cons x xs ih =>
    simp [ackFirst, before x List.mem_cons_self, ih fun y among => before y (List.mem_cons_of_mem x among)]

theorem ackFirst_none {es : List AlarmEntry} (all : ∀ e ∈ es, e.acked = true) : ackFirst es = none := by
  induction es with
  | nil => rfl
  | cons x xs ih =>
    simp [ackFirst, all x List.mem_cons_self, ih fun y among => all y (List.mem_cons_of_mem x among)]

/-- Which alarms are ACTIVE does not hang on what is acknowledged. -/
theorem AlarmState.isActive_acked {pre post : List AlarmEntry} {e : AlarmEntry} {o o' : Bool}
    (k : AlarmKind) (b : Option Nat) :
    AlarmState.isActive ⟨pre ++ { e with acked := true } :: post, o⟩ k b =
      AlarmState.isActive ⟨pre ++ e :: post, o'⟩ k b := by
  simp [AlarmState.isActive, AlarmEntry.activeFor]

/-- The end of a condition acknowledges nothing. -/
theorem AlarmState.clear_acked (a : AlarmState) (p : AlarmEntry → Bool) :
    (a.clear p).entries.map (·.acked) = a.entries.map (·.acked) := by
  unfold AlarmState.clear
  rw [List.map_map]
  congr 1
  funext e
  dsimp only [Function.comp]
  split <;> rfl

section
variable {s : State} {pre post : List AlarmEntry} {e : AlarmEntry}

theorem State.ackNext_first (entries : s.alarms.entries = pre ++ e :: post)
    (before : ∀ x ∈ pre, x.acked = true) (unacked : e.acked = false) :
    s.ackNext = (if e.kind = .trackIntrusion then
      State.intrusionAcked { s with
        alarms := { s.alarms with entries := pre ++ { e with acked := true } :: post } }
      else { s with alarms := { s.alarms with entries := pre ++ { e with acked := true } :: post } }).answerWith
        (.entry { e with acked := true }) := by
  unfold State.ackNext
  rw [entries, ackFirst_eq before unacked]

theorem State.intrusionAcked_other (h : s.sense.intrusion ≠ .frozen) : s.intrusionAcked = s := if_neg h

/-- An acknowledged FROZEN intrusion: the intrusion is CLEAR, its alarm ended, a VACANT platform watched
afresh, and no more changes but frames and the confirmations of the zones. -/
theorem State.intrusionAcked_frozen (h : s.sense.intrusion = .frozen) :
    ∃ bays d, s.intrusionAcked = { s with
        sense := { s.sense with
          intrusion := .clear
          watchStart := if s.berth.phase = .vacant then some s.now else s.sense.watchStart }
        alarms := s.alarms.clear (fun e => decide (e.kind = .trackIntrusion) && decide (e.bay = none))
        bays := bays, send := d } ∧ SameView s { s with bays := bays } := by
  have cleared : s.intrusionAcked = if s.berth.phase = .vacant then
      State.startWatch (State.clear .trackIntrusion none
        { s with sense := { s.sense with intrusion := .clear } })
      else State.clear .trackIntrusion none
        { s with sense := { s.sense with intrusion := .clear } } := if_pos h
  rw [cleared]
  split
  · rename_i vacant
    have bay := State.startWatch_bay s
    exact ⟨s.startWatch.bays, _, rfl, .inl rfl, fun b => (congrArg Bay.state (bay b) :),
      fun b => (congrArg Bay.gap (bay b) :), rfl, rfl, fun _ => rfl, rfl, rfl, rfl⟩
  · exact ⟨s.bays, _, rfl, SameView.refl s⟩

end

/-! ### PURGE_ALARMS (R168, R108) -/

/-- A purge removes no ACTIVE entry. -/
theorem AlarmState.purge_isActive (a : AlarmState) (k : AlarmKind) (b : Option Nat) :
    a.purge.isActive k b = a.isActive k b := by
  unfold AlarmState.purge AlarmState.isActive
  rw [Bool.eq_iff_iff, List.any_eq_true, List.any_eq_true]
  constructor
  · rintro ⟨e, among, active⟩
    exact ⟨e, (List.mem_filter.1 among).1, active⟩
  · rintro ⟨e, among, active⟩
    refine ⟨e, List.mem_filter.2 ⟨among, ?_⟩, active⟩
    rw [AlarmEntry.activeFor_eq] at active
    simp [AlarmEntry.purgeable, active.1]

/-- What is left of the unacknowledged entries by a purge: all of them. -/
theorem AlarmState.purge_standing (a : AlarmState) :
    (a.purge.entries.any fun e => e.standsFor .trackIntrusion none) = true ↔
      ∃ e ∈ a.entries, e.acked = false ∧ e.kind = .trackIntrusion ∧ e.bay = none := by
  unfold AlarmState.purge
  rw [List.any_eq_true]
  constructor
  · rintro ⟨e, among, stands⟩
    simp only [AlarmEntry.standsFor, Bool.and_eq_true, Bool.not_eq_true', decide_eq_true_eq] at stands
    exact ⟨e, (List.mem_filter.1 among).1, stands.1.1, stands.1.2, stands.2⟩
  · rintro ⟨e, among, unacked, kind, bay⟩
    exact ⟨e, List.mem_filter.2 ⟨among, by simp [AlarmEntry.purgeable, unacked]⟩,
      by simp [AlarmEntry.standsFor, unacked, kind, bay]⟩

/-- The list a PURGE_ALARMS leaves (R108, R168). -/
def State.purgedAlarms (s : State) : AlarmState :=
  if s.sense.intrusion = .frozen ∧ ¬ (∃ e ∈ s.alarms.entries,
      e.acked = false ∧ e.kind = .trackIntrusion ∧ e.bay = none) then
    (s.alarms.purge.raise .trackIntrusion none (s.sense.lastBay.map AlarmDetail.bay) s.seconds).1
  else s.alarms.purge

theorem State.purgeAlarms_eq (s : State) : ∃ d, s.purgeAlarms =
    State.answerWith { s with alarms := s.purgedAlarms, send := d }
      (.purged (s.alarms.entries.filter AlarmEntry.purgeable).length) := by
  have standing := s.alarms.purge_standing
  by_cases again : s.sense.intrusion = .frozen ∧ ¬ (∃ e ∈ s.alarms.entries,
      e.acked = false ∧ e.kind = .trackIntrusion ∧ e.bay = none)
  · have raised : State.reraiseIntrusion { s with alarms := s.alarms.purge } =
        State.raise .trackIntrusion none (s.sense.lastBay.map AlarmDetail.bay)
          { s with alarms := s.alarms.purge } :=
      if_pos (by
        rw [Bool.and_eq_true, Bool.not_eq_true', ← Bool.not_eq_true, standing]
        exact ⟨decide_eq_true again.1, again.2⟩)
    have list : s.purgedAlarms = _ := if_pos again
    unfold State.purgeAlarms
    rw [raised, list]
    exact ⟨_, rfl⟩
  · have stands : State.reraiseIntrusion { s with alarms := s.alarms.purge } =
        { s with alarms := s.alarms.purge } :=
      if_neg (by
        rw [Bool.and_eq_true, Bool.not_eq_true', ← Bool.not_eq_true, standing]
        exact fun h => again ⟨of_decide_eq_true h.1, h.2⟩)
    have list : s.purgedAlarms = _ := if_neg again
    unfold State.purgeAlarms
    rw [stands, list]
    exact ⟨_, rfl⟩

theorem State.purgedAlarms_movement (s : State) :
    s.purgedAlarms.isActive .unexpectedMovement none = s.alarms.isActive .unexpectedMovement none := by
  unfold State.purgedAlarms
  split
  · exact (AlarmState.raise_movement _ _ _ _ (by decide)).trans (AlarmState.purge_isActive _ _ _)
  · exact AlarmState.purge_isActive _ _ _

/-! ### SET_NOTICE_MASK (R159) -/

/-- The station's turn leaves masks and intervals. -/
theorem SendState.turn_port (a n : Nat) (d : SendState) (q : Port) :
    ((d.turn a n).port q).mask = (d.port q).mask ∧ ((d.turn a n).port q).folds = (d.port q).folds := by
  induction n generalizing d with
  | zero => exact ⟨rfl, rfl⟩
  | succ n ih =>
    unfold SendState.turn
    split
    · exact ⟨rfl, rfl⟩
    · rename_i x rest _
      obtain ⟨mask, folds⟩ := ih (SendState.unsolicited .station a 0xF3 (.notice x d.lost)
        { d with outbox := rest, lost := 0 })
      rw [mask, folds]
      cases q <;> exact ⟨rfl, rfl⟩

/-- So do the reply and the station's turn. -/
theorem State.replied_port (n : Nat) (f : Frame) (p q : Port) (s : State) :
    ((((s.sendReply n f).stationTurn p).send.port q).mask = (s.send.port q).mask) ∧
      (((s.sendReply n f).stationTurn p).send.port q).folds = (s.send.port q).folds := by
  unfold State.stationTurn
  split
  · obtain ⟨mask, folds⟩ := SendState.turn_port (s.sendReply n f).link.strap turnNotices
      (s.sendReply n f).send q
    rw [mask, folds]
    cases q <;> exact ⟨rfl, rfl⟩
  · cases q <;> exact ⟨rfl, rfl⟩

/-- A request that no train may send, decided in a settled state, leaves the masks and intervals of its
decision. -/
theorem State.Accepts.request_ports {s : State} {r : Req} {k : ReqKind} {owner : State → Answer}
    (h : s.Accepts r k) (notTrain : k.allows .train = false)
    (settled : (owner s.begin_).state.Settled) (q : Port) :
    ((s.request_ r k owner).send.port q).mask = ((owner s.begin_).state.send.port q).mask ∧
      ((s.request_ r k owner).send.port q).folds = ((owner s.begin_).state.send.port q).folds := by
  have taken : s.begin_.goodFrame r.port = s.begin_ := h.taken_eq notTrain
  have authority : k.allows (s.begin_.authorityOf r.port) = true := h.authority
  have decision : State.decideRequest r k (r.len == k.length) owner s.begin_ = owner s.begin_ := by
    rw [h.length, beq_self_eq_true]
    exact State.decideRequest_owner owner authority
  unfold State.request_ State.takeFrame
  rw [h.powered, h.address]
  dsimp only
  rw [taken, decision, settled.finish_eq]
  exact State.replied_port _ _ _ _ _

theorem ClassSet.ofByte_outside {c : Byte} (h : c.getLsbD 7 = true) : ClassSet.ofByte c = none := if_pos h

theorem SendState.port_setPort (d : SendState) (p q : Port) (f : PortState → PortState) :
    (d.setPort p f).port q = if q = p then f (d.port q) else d.port q := by
  cases p <;> cases q <;> rfl

/-- A folded class that the new mask removes has its interval idle, any other keeps it. -/
theorem PortState.withMask_get (m : ClassSet) (x : PortState) {c : NoticeClass} (h : c.isFolded = true) :
    (x.withMask m).folds.get c = if x.mask.has c = true ∧ m.has c = false then some .idle
      else x.folds.get c := by
  have masked : ∀ (a b : Bool) (f : Fold),
      some (f.masked a b) = if a = true ∧ b = false then some .idle else some f := fun a b f => by
    cases a <;> cases b <;> rfl
  cases c
  case secure | emergency => cases h
  all_goals exact masked _ _ _

/-- Settles O55: the three requests to the Alarm List and the mask, branch by branch. -/
theorem alarmRequestsAndMasks : Obligations.AlarmRequestsAndMasks := by
  unfold Obligations.AlarmRequestsAndMasks
  intro s r inv
  refine ⟨fun accepted => ⟨fun pre e post entries before unacked other => ?_,
    fun pre e post entries before unacked kind frozen => ?_, fun all => ⟨_, rfl, ?_⟩⟩,
    fun accepted a purged => ?_, fun accepted p c => ⟨fun q m port mask => ⟨_, rfl, ?_⟩,
    fun outside => ⟨_, rfl, ?_⟩⟩⟩
  · have decision := State.ackNext_first (s := s.begin_) entries before unacked
    have kept : (if e.kind = .trackIntrusion then
        State.intrusionAcked { s.begin_ with
          alarms := { s.alarms with entries := pre ++ { e with acked := true } :: post } }
        else { s.begin_ with
          alarms := { s.alarms with entries := pre ++ { e with acked := true } :: post } }) =
        { s.begin_ with
          alarms := { s.alarms with entries := pre ++ { e with acked := true } :: post } } := by
      split
      · rename_i kind
        exact State.intrusionAcked_other (other.resolve_left fun h => h kind)
      · rfl
    have settled : State.Settled { s.begin_ with
        alarms := { s.alarms with entries := pre ++ { e with acked := true } :: post } } :=
      (inv.settled_begin accepted.powered).of_alarms _ (by
        show _ = s.alarms.isActive _ _
        unfold AlarmState.isActive
        rw [entries]
        exact AlarmState.isActive_acked (o := s.alarms.overflow) (o' := s.alarms.overflow) _ _)
    obtain ⟨x, decided, replied⟩ := accepted.request_leaves rfl settled
      (decision.trans (congrArg (State.answerWith · _) kept))
    exact ⟨x, congrArg Host.Outcome.next decided, replied⟩
  · have decision := State.ackNext_first (s := s.begin_) entries before unacked
    rw [if_pos kind] at decision
    obtain ⟨bays, d, acked, view⟩ := State.intrusionAcked_frozen (s := { s.begin_ with
      alarms := { s.alarms with entries := pre ++ { e with acked := true } :: post } }) frozen
    replace decision := decision.trans (congrArg (State.answerWith · _) acked)
    have active := AlarmState.isActive_acked (pre := pre) (post := post) (e := e)
      (o := s.alarms.overflow) (o' := s.alarms.overflow) .unexpectedMovement none
    rw [← entries] at active
    have phase : s.begin_.ackNext.state.settledPhase = s.begin_.ackNext.state.berth.phase := by
      rw [decision]
      exact (view.settledPhase rfl).trans (inv.settled accepted.powered).phase
    have movement : s.begin_.ackNext.state.movementOver = false := by
      rw [decision]
      exact (inv.settled accepted.powered).noMovement view.state rfl
        ((AlarmState.clear_movement _ _ (by decide)).trans active)
    obtain ⟨y, e'⟩ := State.finish_quiet phase movement
    obtain ⟨x, decided, replied⟩ := accepted.request_eq State.ackNext
    rw [accepted.taken_eq rfl] at decided replied
    rw [e', decision] at decided
    rw [decision] at replied
    refine ⟨_, congrArg Host.Outcome.next decided, rfl, ?_, ?_, rfl, rfl, rfl, replied⟩
    · exact AlarmState.clear_self _ fun e kind bay => by simp [kind, bay]
    · exact AlarmState.clear_acked _ _
  · exact accepted.request_refused inv rfl (by
      show State.ackNext s.begin_ = _
      unfold State.ackNext
      rw [show ackFirst s.begin_.alarms.entries = none from ackFirst_none all])
  · obtain ⟨d, decision⟩ := s.begin_.purgeAlarms_eq
    have settled : State.Settled { s.begin_ with alarms := s.begin_.purgedAlarms, send := d } :=
      (inv.settled_begin accepted.powered).of_alarms _ (State.purgedAlarms_movement _)
    obtain ⟨x, decided, replied⟩ := accepted.request_leaves rfl settled decision
    subst purged
    exact ⟨x, congrArg Host.Outcome.next decided, replied⟩
  · subst port
    have decision : s.begin_.setNoticeMask (.named q) c = State.answer { s with
        send := SendState.setPort q (PortState.withMask m) { s.send with sent := [] } } .done := by
      unfold State.setNoticeMask
      rw [mask]
      rfl
    have settled : State.Settled { s with
        send := SendState.setPort q (PortState.withMask m) { s.send with sent := [] } } :=
      (inv.settled accepted.powered).of_send _
    obtain ⟨x, decided, replied⟩ := accepted.request_leaves rfl settled decision
    have ports := accepted.request_ports rfl (owner := State.setNoticeMask (.named q) c)
      (by rw [decision]; exact settled)
    rw [decision] at ports
    simp only [State.answer, SendState.port_setPort] at ports
    refine ⟨?_, ?_, fun q' other => ?_, fun d folded => ?_, ?_⟩
    · rw [decided]
      exact ⟨rfl, rfl, rfl, rfl, rfl, rfl, rfl⟩
    · rw [(ports q).1, if_pos rfl]
      rfl
    · rw [(ports q').1, if_neg other]
      cases q' <;> rfl
    · rw [(ports q).2, if_pos rfl, PortState.withMask_get m _ folded]
      cases q <;> rfl
    · rw [decided]
      exact replied
  · refine accepted.request_refused inv rfl ?_
    show State.setNoticeMask p c s.begin_ = _
    unfold State.setNoticeMask
    obtain rfl | high := outside
    · rfl
    · rw [ClassSet.ofByte_outside high]
      cases p <;> rfl

end Sys2Proof.Machine
end

section
/-!
PROOFS. Commissioning and the store (R173 to R176), the entries to STARTUP (R169, R172) and the loss of the
supply (R114, R175).
-/
namespace Sys2Proof.Machine
open Sys2Proof

/-! ### The writes as functions of the working copy (R174) -/

theorem changeAt_const {α : Type} (i : Nat) (x : α) (l : List α) :
    changeAt i (fun _ => x) l = l.set i x :=
  have : Inhabited α := ⟨x⟩
  List.modify_eq_set (fun _ => x) i l

/-- A value is changed by being brought into a range exactly where it lies outside. -/
theorem clampInt_ne {lo hi : Int} (order : lo ≤ hi) (x : Int) :
    clampInt lo hi x ≠ x ↔ ¬(lo ≤ x ∧ x ≤ hi) := by
  unfold clampInt
  omega

section
variable {f : GeometryFields} {w : Content}

theorem writeGeometry_outside (h : f.item = .outside) : writeGeometry f w = none := by
  unfold writeGeometry
  rw [h]

theorem writeGeometry_bay_outside (h : f.item = .named .bay)
    (outside : f.disposition = .outside ∨ f.number = 0 ∨ 24 < f.number) : writeGeometry f w = none := by
  unfold writeGeometry
  rw [h]
  dsimp only
  split
  · rfl
  · rename_i named
    obtain none | number := outside
    · rw [none] at named
      cases named
    · exact if_neg (by omega)

theorem writeGeometry_beam_outside (h : f.item = .named .beam) (outside : 15 < f.number) :
    writeGeometry f w = none := by
  unfold writeGeometry
  rw [h]
  exact if_neg (Nat.not_le.2 outside)

theorem writeGeometry_bayCount (h : f.item = .named .bayCount) :
    writeGeometry f w = some ({ w with count := max 1 (min 24 f.number) },
      decide (max 1 (min 24 f.number) ≠ f.number)) := by
  have count : (clampInt 1 24 (f.number : Int)).toNat = max 1 (min 24 f.number) := by
    unfold clampInt
    omega
  unfold writeGeometry
  rw [h]
  dsimp only
  rw [count]
  by_cases same : max 1 (min 24 f.number) = f.number
  · rw [same]
    simp
  · simp [same]

theorem writeGeometry_bay {d : Disposition} (h : f.item = .named .bay) (hd : f.disposition = .named d)
    (low : 1 ≤ f.number) (high : f.number ≤ 24) :
    writeGeometry f w = some ({ w with
      bays := w.bays.set (f.number - 1)
        { centre := max (-250000) (min 0 f.position), width := max 1200 (min 3000 f.width),
          gapClass := min 3 f.gapClass, disposition := if d = .hold then 0 else 1 } },
      decide ¬(-250000 ≤ f.position ∧ f.position ≤ 0 ∧ 1200 ≤ f.width ∧ f.width ≤ 3000 ∧
        f.gapClass ≤ 3)) := by
  unfold writeGeometry
  rw [h, hd]
  dsimp only
  rw [if_pos ⟨low, high⟩, changeAt_const]
  refine congrArg some (Prod.ext rfl (decide_eq_decide.2 ?_))
  rw [clampInt_ne (by decide), clampInt_ne (by decide), show min 3 f.gapClass ≠ f.gapClass ↔ ¬ f.gapClass ≤ 3 by omega]
  simp only [← Classical.not_and_iff_not_or_not, and_assoc]

theorem writeGeometry_beam (h : f.item = .named .beam) (high : f.number ≤ 15) :
    writeGeometry f w = some ({ w with
      beams := w.beams.set f.number (max (-2000) (min 2000 f.position)) },
      decide ¬(-2000 ≤ f.position ∧ f.position ≤ 2000)) := by
  unfold writeGeometry
  rw [h]
  dsimp only
  rw [if_pos high, changeAt_const]
  refine congrArg some (Prod.ext rfl (decide_eq_decide.2 ?_))
  rw [clampInt_ne (by decide)]

end

section
variable {f : ProfileFields} {w : Content}

theorem writeProfile_outside (h : 7 < f.slot ∨ 32 < f.door) : writeProfile f w = none := if_pos h

theorem writeProfile_slot (slot : f.slot ≤ 7) (door : f.door = 0) : writeProfile f w = some ({ w with
      profiles := w.profiles.modify f.slot (fun p => { p with
        count := (max 0 (min 32 f.first)).toNat
        length := max 10000 (min 250000 f.second)
        minClear := max 500 (min 1900 f.third) }) },
    decide ¬(0 ≤ f.first ∧ f.first ≤ 32 ∧ 10000 ≤ f.second ∧ f.second ≤ 250000 ∧ 500 ≤ f.third ∧
      f.third ≤ 1900)) := by
  unfold writeProfile
  rw [if_neg (by omega), if_pos door]
  refine congrArg some (Prod.ext rfl (decide_eq_decide.2 ?_))
  rw [clampInt_ne (by decide), clampInt_ne (by decide), clampInt_ne (by decide)]
  simp only [← Classical.not_and_iff_not_or_not, and_assoc]

theorem writeProfile_door (slot : f.slot ≤ 7) (low : 1 ≤ f.door) (high : f.door ≤ 32) :
    writeProfile f w = some ({ w with
      profiles := w.profiles.modify f.slot (fun p => { p with
        doors := p.doors.set (f.door - 1)
          { offset := max 0 (min 250000 f.first), width := max 900 (min 1900 f.second) } }) },
      decide ¬(0 ≤ f.first ∧ f.first ≤ 250000 ∧ 900 ≤ f.second ∧ f.second ≤ 1900)) := by
  unfold writeProfile
  rw [if_neg (by omega), if_neg (by omega)]
  simp only [changeAt_const]
  refine congrArg some (Prod.ext rfl (decide_eq_decide.2 ?_))
  rw [clampInt_ne (by decide), clampInt_ne (by decide)]
  simp only [← Classical.not_and_iff_not_or_not, and_assoc]

end

section
variable {f : ParameterFields} {w : Content} {p : Param}

theorem writeParameters_unnamed (h : f.position = 0 ∨ 18 < f.position) : writeParameters f w = none := by
  have unnamed : Param.ofPosition f.position = none := by
    unfold Param.ofPosition
    obtain zero | beyond := h
    · exact if_pos zero
    · rw [if_neg (by omega)]
      exact List.getElem?_eq_none (by
        show 18 ≤ f.position - 1
        omega)
  unfold writeParameters
  rw [unnamed]

theorem writeParameters_named (h : Param.ofPosition f.position = some p) : writeParameters f w =
    if p = .queuePolicy ∧ max p.range.1 (min p.range.2 f.value) ≠ f.value then none
    else some ({ w with params := w.params.set p.index (max p.range.1 (min p.range.2 f.value)) },
      decide (max p.range.1 (min p.range.2 f.value) ≠ f.value)) := by
  unfold writeParameters
  rw [h]
  dsimp only
  rw [changeAt_const]
  rfl

theorem Param.range_order (p : Param) : p.range.1 ≤ p.range.2 := by cases p <;> decide

theorem writeParameters_value (h : Param.ofPosition f.position = some p) (other : p ≠ .queuePolicy) :
    writeParameters f w = some ({ w with
      params := w.params.set p.index (max p.range.1 (min p.range.2 f.value)) },
      decide ¬(p.range.1 ≤ f.value ∧ f.value ≤ p.range.2)) := by
  have order := Param.range_order p
  rw [writeParameters_named h, if_neg fun c => other c.1]
  exact congrArg some (Prod.ext rfl (decide_eq_decide.2 (clampInt_ne order f.value)))

theorem writeParameters_noPolicy (h : Param.ofPosition f.position = some p) (policy : p = .queuePolicy)
    (notStrict : f.value ≠ 0) (notLenient : f.value ≠ 1) : writeParameters f w = none := by
  subst policy
  rw [writeParameters_named h]
  refine if_pos ⟨rfl, ?_⟩
  show max 0 (min 1 f.value) ≠ f.value
  omega

theorem writeParameters_policy (h : Param.ofPosition f.position = some p) (policy : p = .queuePolicy)
    (value : f.value = 0 ∨ f.value = 1) : writeParameters f w = some ({ w with
      params := w.params.set p.index f.value }, false) := by
  subst policy
  have same : max Param.queuePolicy.range.1 (min Param.queuePolicy.range.2 f.value) = f.value := by
    show max 0 (min 1 f.value) = f.value
    omega
  rw [writeParameters_named h, same, if_neg fun c => c.2 rfl]
  simp

end

/-! ### The writes as requests -/

section
variable {s : State} {w : Content} {g : Content → Written}

/-- In COMMISSIONING, with nothing being written, a write is decided by its function of the working copy. -/
theorem State.write_working (mode : s.mode = .commissioning) (idle : s.store.commit = .idle)
    (working : s.store.working = some w) : s.write g = match g w with
      | none => s.answer .invalidArgument
      | some (w', clamped) => State.answer { s with store := { s.store with working := some w' } }
          (if clamped then .clamped else .done) := by
  have notWriting : s.isWriting = false := by
    unfold State.isWriting
    rw [idle]
  unfold State.write
  rw [if_neg (by simp [mode]), notWriting, working]
  rfl

/-- The store is read by no judgement. -/
theorem State.Settled.of_store (h : s.Settled) (x : StoreState) : State.Settled { s with store := x } :=
  h.of_parts ⟨.inl rfl, rfl, rfl, fun _ => rfl, rfl, rfl, rfl⟩ rfl rfl rfl rfl rfl

theorem State.write_invalid (mode : s.mode = .commissioning) (idle : s.store.commit = .idle)
    (working : s.store.working = some w) (none : g w = none) :
    s.begin_.write g = s.begin_.answer .invalidArgument := by
  rw [State.write_working (s := s.begin_) mode idle working, none]

theorem State.write_valid {w' : Content} {clamped : Bool} (mode : s.mode = .commissioning)
    (idle : s.store.commit = .idle) (working : s.store.working = some w)
    (written : g w = some (w', clamped)) :
    s.begin_.write g = State.answer { s.begin_ with store := { s.store with working := some w' } }
      (if clamped then .clamped else .done) := by
  rw [State.write_working (s := s.begin_) mode idle working, written]
  rfl

end

/-- A write of a kind with a length of its own: the working copy alone follows its function. -/
theorem State.Accepts.request_write {s : State} {r : Req} {k : ReqKind} {w : Content}
    {g : Content → Written} (h : s.Accepts r k) (inv : s.Inv) (notTrain : k.allows .train = false)
    (mode : s.mode = .commissioning) (idle : s.store.commit = .idle) (working : s.store.working = some w) :
    (g w = none → ∃ t, Host.Outcome.next (s.request_ r k (State.write g)) = (.next t : Outcome) ∧
      s.SameButSend t ∧ s.Replied t r k .invalidArgument .empty) ∧
    (∀ w' clamped, g w = some (w', clamped) →
      ∃ x, Host.Outcome.next (s.request_ r k (State.write g)) = (.next { s with
          store := { s.store with working := some w' }, send := x } : Outcome) ∧
        s.replyFrame r k.code (if clamped then .clamped else .done) .empty ∈ x.sent) := by
  refine ⟨fun none => ⟨_, rfl, h.request_refused inv notTrain (State.write_invalid mode idle working none)⟩,
    fun w' clamped written => ?_⟩
  obtain ⟨x, decided, replied⟩ := h.request_leaves notTrain
    ((inv.settled_begin h.powered).of_store _) (State.write_valid mode idle working written)
  exact ⟨x, congrArg Host.Outcome.next decided, replied⟩

theorem parametersLength_good {f : ParameterFields} {n : Nat}
    (h : match Param.ofPosition f.position with
      | some p => n = 1 + p.bytes
      | none => n = 2 ∨ n = 3) : parametersLength f.position n = true := by
  cases named : Param.ofPosition f.position with
  | some p =>
    rw [named] at h
    exact (parametersLength_named named).2 h
  | none =>
    rw [named] at h
    exact (parametersLength_unnamed named).2 h

/-! ### ENTER_COMMISSIONING (R173) -/

theorem State.atRest_of {s : State} (shut : ∀ b, s.inTable b = true → s.bayIs b BayState.isShut = true)
    (idle : s.busy = none) : s.atRest = true := by
  unfold State.atRest
  rw [State.someBayNotLocked_eq_false.2 shut, idle]
  rfl

/-- ENTER_COMMISSIONING where it is accepted. -/
theorem State.enterCommissioning_accepted {s : State}
    (h : (s.mode = .normal ∨ s.mode = .localMode) ∧ s.berth.phase = .vacant ∧
        (∀ b, s.inTable b = true → s.bayIs b BayState.isShut = true) ∧ s.busy = none ∨
      s.mode = .configFault ∧ s.noCause = true) :
    ∃ d, s.enterCommissioningRequest = State.answer { s with
      store := { s.store with working := some s.store.image }, mode := .commissioning, send := d } .done := by
  have entered : s.enterCommissioningRequest = s.enterCommissioning.answer .done := by
    unfold State.enterCommissioningRequest
    obtain ⟨mode, phase, shut, idle⟩ | ⟨mode, noCause⟩ := h
    · have rest := State.atRest_of shut idle
      obtain mode | mode := mode <;> simp [mode, phase, rest]
    · simp [mode, noCause]
  have other : s.mode ≠ .commissioning := by
    obtain ⟨mode | mode, -⟩ | ⟨mode, -⟩ := h <;> rw [mode] <;> decide
  rw [entered]
  unfold State.enterCommissioning State.setMode
  rw [if_neg other]
  exact ⟨_, rfl⟩

/-- Outside NORMAL and LOCAL secure is withheld. -/
theorem State.judge_withheld {s : State} (h : ¬(s.mode = .normal ∨ s.mode = .localMode)) :
    s.judge.isEmpty = false :=
  Bool.eq_false_iff.2 fun empty => h (s.judge_isEmpty_iff.1 empty).mode

/-- Settles O56: the writes are functions of the working copy, which no judgement reads; the entry changes
the mode. -/
theorem commissioningWorksOnACopy : Obligations.CommissioningWorksOnACopy := by
  unfold Obligations.CommissioningWorksOnACopy
  refine ⟨fun s r inv accepted entry => ?_, fun s r w inv mode idle working => ⟨fun f accepted =>
      accepted.request_write inv rfl mode idle working, fun f accepted =>
      accepted.request_write inv rfl mode idle working, fun f powered address allowed length => ?_⟩,
    fun w f => ⟨writeGeometry_outside, writeGeometry_bay_outside, writeGeometry_beam_outside,
      writeGeometry_bayCount, fun d => writeGeometry_bay, writeGeometry_beam⟩,
    fun w f => writeProfile_outside, fun w f slot => ⟨writeProfile_slot slot, writeProfile_door slot⟩,
    fun w f p named => ⟨writeParameters_value named, writeParameters_noPolicy named,
      writeParameters_policy named⟩, fun w f => writeParameters_unnamed⟩
  · obtain ⟨d, decision⟩ := State.enterCommissioning_accepted (s := s.begin_) entry
    have settled := inv.settled accepted.powered
    have phase : s.begin_.enterCommissioningRequest.state.settledPhase =
        s.begin_.enterCommissioningRequest.state.berth.phase := by
      rw [decision]
      exact settled.phase
    have movement : s.begin_.enterCommissioningRequest.state.movementOver = false := by
      rw [decision]
      exact settled.noMovement (fun _ => rfl) rfl rfl
    have withheld : s.begin_.enterCommissioningRequest.state.judge.isEmpty = false := by
      rw [decision]
      exact State.judge_withheld (by simp [State.answer])
    obtain ⟨y, e⟩ := State.finish_quiet phase movement
    obtain ⟨x, decided, replied⟩ := accepted.request_eq State.enterCommissioningRequest
    rw [accepted.taken_eq rfl] at decided replied
    rw [e] at decided
    refine ⟨_, congrArg Host.Outcome.next decided, ?_⟩
    unfold State.Replied
    rw [decision] at replied ⊢
    rw [decision] at withheld
    exact ⟨rfl, rfl, rfl, rfl, rfl, withheld, replied⟩
  · have taken : s.taken r.port = s.begin_ := s.taken_other fun train => by
      rw [train] at allowed
      cases allowed
    have owned : State.decideRequest r .writeParameters (parametersLength f.position r.len)
        (State.write (writeParameters f)) (s.taken r.port) = s.begin_.write (writeParameters f) := by
      rw [parametersLength_good length, taken]
      exact State.decideRequest_owner _ allowed
    refine ⟨fun none => ⟨_, rfl, ?_⟩, fun w' clamped written => ?_⟩
    · have refused := State.takeFrame_refused (k := ReqKind.writeParameters.code) inv powered address
        ((owned.trans (State.write_invalid mode idle working none)).trans (by rw [taken]))
      rw [taken] at refused
      exact ⟨⟨refused.1.1, refused.1.2, refused.1.3, refused.1.4, refused.1.5, refused.1.6, refused.1.7⟩,
        refused.2⟩
    · have decision := owned.trans (State.write_valid mode idle working written)
      obtain ⟨x, decided, replied⟩ := State.takeFrame_decided (k := ReqKind.writeParameters.code)
        (decision := State.decideRequest r .writeParameters (parametersLength f.position r.len)
          (State.write (writeParameters f))) powered address
        (by rw [decision]; exact (inv.settled_begin powered).of_store _)
      rw [decision] at decided replied
      exact ⟨x, congrArg Host.Outcome.next decided, replied⟩

end Sys2Proof.Machine
end

section
/-!
PROOFS. The commit write (R175, R176), the entries to STARTUP (R169, R172) and the loss of the supply (R114,
R175).
-/
namespace Sys2Proof.Machine
open Sys2Proof

/-! ### An entry to STARTUP (R169) -/

/-- Beside the values of its blocks an entry to STARTUP gives frames, and alarms. -/
theorem State.enterStartup_parts (s : State) (k : StartupBy) : ∃ a d,
    s.enterStartup k = { s.startupValues k with alarms := a, send := d } ∧
      (k = .power → a = ⟨[], false⟩) ∧
      (k = .restart → ∃ p n, a = ((s.alarms.clear p).raise .restart none none n).1) := by
  cases k with
  | power => exact ⟨_, _, rfl, fun _ => rfl, nofun⟩
  | restart => exact ⟨_, _, rfl, nofun, fun _ => ⟨_, _, rfl⟩⟩
  | commissioning => exact ⟨_, _, rfl, nofun, nofun⟩

/-- What holds of a part in STARTUP once the command that brought it there has ended. -/
structure State.Started (s t : State) : Prop where
  powered : t.powered = true
  mode : t.mode = .startup
  berth : t.berth = .initial
  operation : t.doors.operation = none
  requests : t.doors.requests = []
  emer : t.emer = ⟨false, [], none⟩
  sense : t.sense = ⟨.clear, none, none⟩
  asserted : t.secure.asserted = false
  reason : t.secure.reasons.mode = true
  driveA : t.secure.driveA = false
  driveB : t.secure.driveB = false
  working : t.store.working = none
  image : t.store.image = s.store.image
  loadDetail : t.store.loadDetail = checkImage s.store.image s.store.checksum

theorem State.enterStartup_started (s : State) (k : StartupBy) : s.Started (s.enterStartup k).finish := by
  obtain ⟨a, d, e, -⟩ := s.enterStartup_parts k
  have vacant : (s.enterStartup k).berth.phase = .vacant := by rw [e]; rfl
  have berth := State.finish_berth (State.settledPhase_vacant vacant)
  have judge : (s.enterStartup k).judge.mode = true := by
    rw [State.judge_startup (by rw [e]; rfl)]
    rfl
  have withheld : (s.enterStartup k).judge.isEmpty = false := by
    unfold Reasons.isEmpty
    rw [judge]
    rfl
  refine ⟨?_, ?_, ?_, ?_, ?_, ?_, ?_, ?_, ?_, ?_, ?_, ?_, ?_, ?_⟩
  · exact (congrArg Setting.powered (State.finish_setting _)).trans (by rw [e]; rfl)
  · rw [State.finish_mode, e]
    rfl
  · rw [berth, e]
    rfl
  · rw [State.finish_doors, e]
    rfl
  · rw [State.finish_doors, e]
    rfl
  · rw [State.finish_emer, e]
    rfl
  · rw [State.finish_sense, e]
    rfl
  · rw [State.finish_secure]
    exact withheld
  · rw [State.finish_secure]
    exact judge
  · rw [State.finish_secure]
    exact withheld
  · rw [State.finish_secure]
    exact withheld
  · rw [State.finish_store, e]
    rfl
  · rw [State.finish_store, e]
    rfl
  · rw [State.finish_store, e]
    rfl

theorem State.finish_now (s : State) : s.finish.now = s.now :=
  congrArg Setting.now s.finish_setting

theorem State.enterStartup_now (s : State) (k : StartupBy) :
    (s.enterStartup k).finish.now = if k = .commissioning then s.now else 0 := by
  obtain ⟨a, d, e, -⟩ := s.enterStartup_parts k
  rw [State.finish_now, e]
  rfl

/-- An empty list tells of no movement. -/
theorem State.movementOver_of_noAlarm {s : State} (h : s.alarms.entries = []) : s.movementOver = false := by
  unfold State.movementOver State.hasActive
  rw [h]
  rfl

/-- An entry of an event is in the list that raises it, where the list has room. -/
theorem AlarmState.raise_event (a : AlarmState) {k : AlarmKind} (d : Option AlarmDetail) (n : Seconds)
    (event : k.isEvent = true) (room : a.entries.length < alarmLimit) :
    ∃ e ∈ (a.raise k none d n).1.entries, e.kind = k ∧ e.active = false ∧ e.acked = false := by
  unfold AlarmState.raise
  split
  · rename_i e found
    have stands := List.find?_some found
    have same : (!e.acked && decide (e.kind = k) && decide (e.bay = none)) = true := stands
    simp only [Bool.and_eq_true, Bool.not_eq_true', decide_eq_true_eq] at same
    obtain ⟨⟨unacked, kind⟩, -⟩ := same
    refine ⟨e.update d, List.mem_map.2 ⟨e, List.mem_of_find?_eq_some found, if_pos stands⟩, kind, ?_, unacked⟩
    show (!e.kind.isEvent) = false
    rw [kind, event]
    rfl
  · unfold makeRoom
    rw [if_pos room]
    refine ⟨_, List.mem_append_right _ (List.mem_singleton.2 rfl), rfl, ?_, rfl⟩
    show (!k.isEvent) = false
    rw [event]
    rfl

/-! ### The decisions that enter STARTUP (R172, R176) -/

theorem State.restart_accepted {s : State} (mode : s.mode ≠ .startup) (idle : s.isWriting = false) :
    s.restart = (s.enterStartup .restart).answer .done := by
  unfold State.restart
  simp [mode, idle]

theorem State.leaveChecked_passed {s : State} (go : State → Answer) (mode : s.mode = .commissioning)
    (locked : s.testBayAstray = false) : s.leaveChecked go =
      if s.isWriting then s.answer .busy else go s := by
  unfold State.leaveChecked
  simp [mode, locked]

/-- The supply removed: the drives are off, and a write in progress may have torn the image. -/
theorem State.tornStore_cases (s : State) :
    (s.isWriting = false ∧ s.tornStore = s) ∨ (s.isWriting = true ∧ s.tornStore = { s with
      store := { s.store with
        image := (Config.tornStore s.freeCount).1
        checksum := (Config.tornStore s.freeCount).2
        commit := .idle }
      freeCount := s.freeCount + 1 }) := by
  unfold State.isWriting State.tornStore
  cases s.store.commit with
  | idle => exact .inl ⟨rfl, rfl⟩
  | writing since e => exact .inr ⟨rfl, rfl⟩

/-- Settles O58: the three commands end in an entry to STARTUP, in the state as it stands. -/
theorem enteringStartupAndLosingTheSupply : Obligations.EnteringStartupAndLosingTheSupply := by
  unfold Obligations.EnteringStartupAndLosingTheSupply
  intro s inv
  refine ⟨fun i r entry => ?_, fun powered => ⟨_, rfl, ?_⟩⟩
  · obtain rfl | ⟨rfl, accepted, mode, idle⟩ | ⟨rfl, accepted, mode, locked, idle⟩ := entry
    · have h := s.begin_.enterStartup_started .power
      obtain ⟨a, d, e, none, -⟩ := s.begin_.enterStartup_parts .power
      have empty : (s.begin_.enterStartup .power).alarms = ⟨[], false⟩ := by
        rw [e]
        exact none rfl
      refine ⟨_, rfl, h.1, h.2, h.3, h.4, h.5, h.6, h.7, h.8, h.9, h.10, h.11, h.12, h.13, h.14,
        fun _ => ⟨?_, s.begin_.enterStartup_now .power, ?_⟩, nofun, nofun⟩
      · rw [State.finish_alarms (State.movementOver_of_noAlarm (by rw [empty])), empty]
      · rw [State.finish_store, e]
        rfl
    · have decision := State.restart_accepted (s := s.begin_) mode idle
      have h := s.begin_.enterStartup_started .restart
      obtain ⟨a, d, e, -, raised⟩ := s.begin_.enterStartup_parts .restart
      obtain ⟨p, n, list⟩ := raised rfl
      obtain ⟨x, decided, -⟩ := accepted.request_eq State.restart
      rw [accepted.taken_eq rfl, decision] at decided
      refine ⟨_, congrArg Host.Outcome.next decided, h.1, h.2, h.3, h.4, h.5, h.6, h.7, h.8, h.9, h.10, h.11,
        h.12, h.13, h.14, nofun, fun _ => ⟨s.begin_.enterStartup_now .restart, fun room => ?_⟩, nofun⟩
      obtain ⟨y, among, kind, active, acked⟩ := AlarmState.raise_event (s.begin_.alarms.clear p) none n
        (k := .restart) rfl (by rw [AlarmState.clear_length]; exact room)
      refine ⟨y, State.finish_entry _ ?_ (by rw [kind]; decide), kind, active, acked⟩
      show y ∈ (s.begin_.enterStartup .restart).alarms.entries
      rw [e, list]
      exact among
    · have passed := State.leaveChecked_passed (s := s.begin_)
        (fun t => (t.enterStartup .commissioning).answer .done) mode locked
      rw [show s.begin_.isWriting = false from idle] at passed
      have h := s.begin_.enterStartup_started .commissioning
      obtain ⟨x, decided, -⟩ := accepted.request_eq (State.leaveChecked fun t =>
        (t.enterStartup .commissioning).answer .done)
      rw [accepted.taken_eq rfl, passed] at decided
      exact ⟨_, congrArg Host.Outcome.next decided, h.1, h.2, h.3, h.4, h.5, h.6, h.7, h.8, h.9, h.10, h.11,
        h.12, h.13, h.14, nofun, nofun, fun _ => s.begin_.enterStartup_now .commissioning⟩
  · rw [if_pos powered]
    obtain ⟨idle, e⟩ | ⟨writing, e⟩ := s.begin_.tornStore_cases
    · rw [e]
      exact ⟨rfl, rfl, rfl, rfl, rfl, fun _ => rfl, fun h => Bool.noConfusion (idle.symm.trans h)⟩
    · rw [e]
      exact ⟨rfl, rfl, rfl, rfl, rfl, fun h => Bool.noConfusion (h.symm.trans writing), fun _ => ⟨rfl, rfl⟩⟩

/-! ### The commit write (R175) -/

section
variable {s : State} {w : Content}

/-- A working copy that violates nothing, within the limits, passes the checks of COMMIT. -/
theorem State.commitCheck_passed (idle : s.store.commit = .idle) (working : s.store.working = some w)
    (valid : firstViolation w = none) (isolations : (s.isolatedCount : Int) ≤ w.param .isolationLimit)
    (wear : s.store.writeCount < wearLimit) : s.commitCheck = .passed := by
  unfold State.commitCheck
  rw [idle, working]
  simp [valid, Int.not_lt.2 isolations, wear]

theorem State.commitCheck_violation {v : Violation} (idle : s.store.commit = .idle)
    (working : s.store.working = some w) (violated : firstViolation w = some v) :
    s.commitCheck = .violation v := by
  unfold State.commitCheck
  rw [idle, working]
  simp [violated]

theorem State.isWriting_idle (idle : s.store.commit = .idle) : s.isWriting = false := by
  unfold State.isWriting
  rw [idle]

theorem State.commitWriteEnd_due {since : Millis} {e : Bool} (writing : s.store.commit = .writing since e)
    (past : since + 600 ≤ s.now) : s.commitWriteEnd =
      if e && decide (s.mode = .commissioning) then s.endCommit.enterStartup .commissioning
      else s.endCommit := by
  have due : s.commitDue = true := by
    unfold State.commitDue
    rw [writing]
    exact decide_eq_true past
  unfold State.commitWriteEnd State.exitsAfterWrite
  rw [if_pos due, writing]

theorem State.endCommit_eq (working : s.store.working = some w) : s.endCommit =
    State.notice (.commitEnd .done s.store.writeCount) { s with store := { s.store with
      image := w, checksum := checksumOf w, commit := .idle } } := by
  unfold State.endCommit
  rw [working]
  rfl

end

/-- Settles O57: an accepted COMMIT and the end of a write change the store, which no judgement reads; a
COMMIT_AND_EXIT then enters STARTUP. -/
theorem commitWritesTheImage : Obligations.CommitWritesTheImage := by
  unfold Obligations.CommitWritesTheImage
  intro s inv
  refine ⟨fun i r k e request accepted mode idle w working => ?_,
    fun w since e powered writing past working => ?_⟩
  · obtain ⟨owner, taken, notTrain, decision⟩ : ∃ owner : State → Answer,
        exec i s = .next (s.request_ r k owner) ∧ k.allows .train = false ∧
        owner s.begin_ = s.begin_.commitChecked e := by
      obtain ⟨rfl, rfl, rfl⟩ | ⟨rfl, rfl, rfl, locked⟩ := request
      · exact ⟨_, rfl, rfl, if_neg (not_not_intro mode)⟩
      · refine ⟨_, rfl, rfl, (State.leaveChecked_passed (s := s.begin_) _ mode locked).trans ?_⟩
        rw [State.isWriting_idle (s := s.begin_) idle]
        rfl
    refine ⟨fun valid isolations wear => ?_, fun v violated => ⟨_, taken, ?_⟩⟩
    · have passed : owner s.begin_ = (s.begin_.startCommit e).answer .accepted := by
        rw [decision]
        unfold State.commitChecked
        rw [State.commitCheck_passed (s := s.begin_) idle working valid isolations wear]
      obtain ⟨x, decided, replied⟩ := accepted.request_leaves notTrain
        ((inv.settled_begin accepted.powered).of_store _) passed
      exact ⟨x, taken.trans (congrArg Host.Outcome.next decided), replied⟩
    · refine accepted.request_answered inv notTrain ?_
      rw [decision]
      unfold State.commitChecked
      rw [State.commitCheck_violation (s := s.begin_) idle working violated]
  · have effect := State.commitWriteEnd_due (s := s.begin_) writing past
    have ended := State.endCommit_eq (s := s.begin_) working
    have settled : s.begin_.endCommit.Settled := by
      rw [ended]
      exact ((inv.settled_begin powered).of_store _).of_send _
    have event : exec .commitWriteEnd s = .next (s.begin_.commitWriteEnd).finish :=
      congrArg Host.Outcome.next (State.event_eq _ powered)
    by_cases leaves : e = true ∧ s.mode = .commissioning
    · rw [if_pos (by rw [leaves.1]; exact decide_eq_true leaves.2)] at effect
      obtain ⟨a, d, started, -⟩ := s.begin_.endCommit.enterStartup_parts .commissioning
      have h := s.begin_.endCommit.enterStartup_started .commissioning
      refine ⟨_, event, ?_⟩
      rw [effect]
      refine ⟨?_, ?_, ?_, ?_, fun stays => ?_, fun _ _ => ⟨h.mode, h.working, ?_⟩⟩
      · rw [h.image, ended]
        rfl
      · rw [State.finish_store, started, ended]
        rfl
      · rw [State.finish_store, started, ended]
        rfl
      · rw [State.finish_store, started, ended]
        rfl
      · exact Bool.noConfusion (stays.symm.trans leaves.1)
      · rw [h.loadDetail, ended]
        rfl
    · rw [if_neg fun h => leaves ⟨(Bool.and_eq_true _ _ ▸ h).1, of_decide_eq_true (Bool.and_eq_true _ _ ▸ h).2⟩]
      at effect
      refine ⟨_, event, ?_⟩
      rw [effect, settled.finish_eq, ended]
      exact ⟨rfl, rfl, rfl, rfl, fun _ => ⟨rfl, working, rfl, rfl⟩,
        fun exits mode => absurd ⟨exits, mode⟩ leaves⟩

end Sys2Proof.Machine
end

section
/-!
PROOFS. The record of a bay through a change of state (R62, R76, R90, R95, R104, R120, R146), what the change
leaves of the rest, and the room a raise finds in the Alarm List (R167).
-/
namespace Sys2Proof.Machine
open Sys2Proof

/-! ### The record of a bay that leaves a state -/

/-- What the leaving of the state `old` for `st` makes of a bay record. -/
def Bay.leave (old : Option BayState) (st : BayState) (requested : Bool) (y : Bay) : Bay :=
  let unlocks := old.any (· == .locked) && st != .locked
  { y with
    gap := if unlocks then .notRequired else y.gap
    gapFrom := if unlocks then none else y.gapFrom
    step := if st != .test then none else y.step
    isolation := if requested && st != .locked && !st.isFault then .notIsolated else y.isolation }

section
variable {s : State} {b : Nat} (h1 : 1 ≤ b) (h2 : b ≤ s.bays.length)
include h1 h2

/-- The step in progress of a bay ends with its result. -/
theorem State.endStep_running {p : StepPosition} {x : Step} {since : Millis} {last : Option StepResult}
    (h : (s.bay b).step = some ⟨p, some (x, since), last⟩) (z : StepResult) :
    (s.endStep b z).bay b = { s.bay b with
      step := some ⟨if z = .complete then x.after else p, none, some z⟩ } := by
  unfold State.endStep
  rw [h]
  exact State.bay_setBay_self _ h1 h2

omit h1 h2 in
theorem State.endStep_length (z : StepResult) : (s.endStep b z).bays.length = s.bays.length :=
  (Stable.length { bay := fun _ => True } s.bays.length id).endStep z trivial rfl

/-- The step of a bay ends and is gone. -/
theorem State.dropStep_bay (z : StepResult) :
    ((s.endStep b z).setBay b fun y => { y with step := none }).bay b = { s.bay b with step := none } := by
  rw [State.bay_setBay_self _ h1 (by rw [State.endStep_length]; exact h2)]
  unfold State.endStep
  split
  · rename_i pos x _ _ _
    have e := State.bay_setBay_self (s := s) (b := b) (fun y : Bay => { y with
      step := some ⟨if z = .complete then x.after else pos, none, some z⟩ }) h1 h2
    exact (congrArg (fun y : Bay => { y with step := none }) e).trans rfl
  · rfl

/-- The record of a bay that has left a state. -/
theorem State.leaveState_bay (old : Option BayState) (st : BayState) :
    (s.leaveState b old st).bay b = (s.bay b).leave old st (s.request b).isSome := by
  have L := Stable.length { bay := fun _ => True } s.bays.length id
  unfold State.leaveState Bay.leave
  dsimp only
  generalize (old.any (· == .locked) && st != .locked) = unlocks
  generalize (old.any BayState.isHeld && !st.isHeld) = freed
  generalize (old.any BayState.isFault && !st.isFault) = mended
  generalize ((s.request b).isSome && st != .locked && !st.isFault) = dropped
  have unlocked : (if unlocks then s.resetGap b else s).bay b = { s.bay b with
      gap := if unlocks then .notRequired else (s.bay b).gap
      gapFrom := if unlocks then none else (s.bay b).gapFrom } ∧
      (if unlocks then s.resetGap b else s).bays.length = s.bays.length := by
    cases unlocks
    · exact ⟨rfl, rfl⟩
    · exact ⟨State.resetGap_bay h1 h2, L.resetGap trivial rfl⟩
  generalize (if unlocks = true then s.resetGap b else s) = t1 at unlocked ⊢
  have cleared : (if mended then ((((if freed then t1.clear .obstructionHeld (some b) else t1).clear .openTimeout
      (some b)).clear .closeTimeout (some b)).clear .provingDiscrepant (some b)) else
      (if freed then t1.clear .obstructionHeld (some b) else t1)).bays = t1.bays := by
    cases mended <;> cases freed <;> rfl
  generalize (if mended = true then _ else (if freed = true then t1.clear .obstructionHeld (some b) else t1)) =
    t3 at cleared ⊢
  obtain ⟨bay1, length1⟩ := unlocked
  have bay3 := (State.bay_congr cleared b).trans bay1
  have length3 := (congrArg List.length cleared).trans length1
  have stepped : (if st != .test then (t3.endStep b .failed).setBay b fun y => { y with step := none }
      else t3).bay b = { t3.bay b with step := if st != .test then none else (t3.bay b).step } ∧
      (if st != .test then (t3.endStep b .failed).setBay b fun y => { y with step := none }
      else t3).bays.length = s.bays.length := by
    cases st != .test
    · exact ⟨rfl, length3⟩
    · exact ⟨State.dropStep_bay h1 (by omega) .failed,
        (State.setBay_length _ _ _).trans (L.endStep .failed trivial length3)⟩
  generalize (if (st != .test) = true then _ else t3) = t4 at stepped ⊢
  obtain ⟨bay4, length4⟩ := stepped
  rw [bay3] at bay4
  cases dropped
  · exact bay4
  · have bay5 : (t4.dropRequest b).bay b = { t4.bay b with isolation := .notIsolated } :=
      State.dropRequest_bay h1 (by omega)
    rw [bay4] at bay5
    rw [if_pos rfl]
    split <;> exact bay5

/-- The record of a bay that has entered a state other than OPEN. -/
theorem State.enterState_record {st : BayState} (notOpen : st ≠ .opened) :
    (s.enterState b st).bay b =
      Bay.enter st s.now ((s.bay b).leave (s.bay b).state st (s.request b).isSome) := by
  have length : (s.leaveState b (s.bay b).state st).bays.length = s.bays.length :=
    (Stable.length { bay := fun _ => True } s.bays.length id).leaveState (s.bay b).state st trivial rfl
  have entered := State.bay_setBay_self (s := s.leaveState b (s.bay b).state st) (Bay.enter st s.now) h1
    (by omega)
  unfold State.enterState
  dsimp only
  rw [if_neg notOpen]
  refine (((Stable.noBay _).handOn b st (State.OnlyBays.refl _ _)).5 b id).trans ?_
  rw [entered, State.leaveState_bay h1 h2]

end

/-! ### What a change of state leaves of the rest -/

/-- The alarms of a bay that end when it leaves a state for `st` (R75, R76, R90, R91). -/
def BayState.ends (st : BayState) : AlarmKind → Bool
  | .obstructionHeld => true
  | .openTimeout | .closeTimeout | .provingDiscrepant => !st.isFault
  | _ => false

/-- What survives each thing that the leaving of a state brings survives the whole. -/
theorem State.leaveState_keeps {P : State → Prop} {s : State} {b : Nat} {st : BayState}
    (gap : ∀ t, P t → P (t.resetGap b))
    (clear : ∀ k t, st.ends k = true → P t → P (t.clear k (some b)))
    (step : ∀ t, P t → P ((t.endStep b .failed).setBay b fun y => { y with step := none }))
    (drop : ∀ t, (s.request b).isSome = true → P t → P (t.dropRequest b))
    (expired : ∀ t, P t → P (t.raise .isolationExpired (some b) (some (.bayState st))))
    (hs : P s) (old : Option BayState) : P (s.leaveState b old st) := by
  unfold State.leaveState
  dsimp only
  have h1 : ∀ c : Bool, P (if c then s.resetGap b else s) := fun c => by
    cases c
    · exact hs
    · exact gap s hs
  have h2 : ∀ (t : State) (c : Bool), P t → P (if c then t.clear .obstructionHeld (some b) else t) :=
    fun t c h => by
      cases c
      · exact h
      · exact clear _ t rfl h
  have h3 : ∀ (t : State) (c : Bool), P t → P (if c && !st.isFault then ((t.clear .openTimeout
      (some b)).clear .closeTimeout (some b)).clear .provingDiscrepant (some b) else t) := fun t c h => by
    split
    · rename_i mended
      have ended : (!st.isFault) = true := (Bool.and_eq_true _ _ ▸ mended).2
      exact clear _ _ ended (clear _ _ ended (clear _ t ended h))
    · exact h
  have h4 : ∀ (t : State) (c : Bool), P t → P (if c then
      (t.endStep b .failed).setBay b fun y => { y with step := none } else t) := fun t c h => by
    cases c
    · exact h
    · exact step t h
  have before := h4 _ (st != .test) (h3 _ (old.any BayState.isFault)
    (h2 _ (old.any BayState.isHeld && !st.isHeld) (h1 (old.any (· == .locked) && st != .locked))))
  split
  · rename_i dropped
    simp only [Bool.and_eq_true] at dropped
    obtain ⟨⟨requested, -⟩, -⟩ := dropped
    split
    · exact drop _ requested before
    · exact expired _ (drop _ requested before)
  · exact before

/-- The parts of the state that no change of a bay's state reaches of itself: all but the bay records, the
pending requests, the alarms and the frames. -/
def State.Beside (s t : State) : Prop :=
  ∃ bays requests alarms send, t = { s with
    bays := bays, doors := { s.doors with requests := requests }, alarms := alarms, send := send }

theorem State.Beside.refl (s : State) : s.Beside s := ⟨s.bays, s.doors.requests, s.alarms, s.send, rfl⟩

theorem State.Beside.trans {s t u : State} (h : s.Beside t) (g : t.Beside u) : s.Beside u := by
  obtain ⟨_, _, _, _, rfl⟩ := h
  obtain ⟨_, _, _, _, rfl⟩ := g
  exact ⟨_, _, _, _, rfl⟩

theorem State.Beside.resetGap {s : State} (b : Nat) : s.Beside (s.resetGap b) := by
  unfold State.resetGap
  dsimp only
  split <;> exact ⟨_, s.doors.requests, _, _, rfl⟩

theorem State.Beside.endStep {s : State} (b : Nat) (x : StepResult) : s.Beside (s.endStep b x) := by
  unfold State.endStep
  split
  · exact ⟨_, s.doors.requests, s.alarms, _, rfl⟩
  · exact State.Beside.refl s

theorem State.Beside.setBay {s : State} (b : Nat) (f : Bay → Bay) : s.Beside (s.setBay b f) :=
  ⟨_, s.doors.requests, s.alarms, s.send, rfl⟩

theorem State.Beside.leaveState {s : State} (b : Nat) (old : Option BayState) (st : BayState) :
    s.Beside (s.leaveState b old st) :=
  State.leaveState_keeps (P := s.Beside) (fun _ h => h.trans (.resetGap b))
    (fun _ t _ h => h.trans ⟨t.bays, t.doors.requests, _, _, rfl⟩)
    (fun _ h => (h.trans (.endStep b .failed)).trans (.setBay b _))
    (fun t _ h => h.trans ⟨_, _, t.alarms, t.send, rfl⟩)
    (fun t h => h.trans ⟨t.bays, t.doors.requests, _, _, rfl⟩) (State.Beside.refl s) old

/-- OPENING, CLOSE_WAIT, CLOSING, REOPENING and TEST: the states that no operation counts as an outcome and
that make no bay unavailable (R53, R65). -/
def BayState.isQuiet : BayState → Bool
  | .opening | .closeWait | .closing _ | .reopening _ _ | .test => true
  | .opened | .locked | .isolated | .released | .held _ | .fault _ => false

theorem State.giveOutcome_none {s : State} {b : Nat} {st : BayState}
    (none : ∀ k : OpKind, k.outcome st = none) : s.giveOutcome b st = s := by
  unfold State.giveOutcome
  split
  · rfl
  · split
    · rw [none]
    · rfl

theorem BayState.isQuiet_outcome {st : BayState} (h : st.isQuiet = true) (k : OpKind) :
    k.outcome st = none := by
  cases st <;> first | rfl | cases h

theorem BayState.isQuiet_available {st : BayState} (h : st.isQuiet = true) :
    st.isUnavailable = false ∧ st ≠ .opened := by
  cases st
  case opened | locked | isolated | released | held | fault => cases h
  all_goals exact ⟨rfl, nofun⟩

/-- A bay enters such a state, and nothing follows from it. -/
theorem State.enterState_quiet {s : State} {b : Nat} {st : BayState} (h : st.isQuiet = true) :
    s.enterState b st = (s.leaveState b (s.bay b).state st).setBay b (Bay.enter st s.now) := by
  obtain ⟨available, notOpen⟩ := BayState.isQuiet_available h
  unfold State.enterState State.handOn
  dsimp only
  rw [if_neg notOpen, State.giveOutcome_none (BayState.isQuiet_outcome h), available]
  rfl

theorem State.Beside.enterState {s : State} {b : Nat} {st : BayState} (h : st.isQuiet = true) :
    s.Beside (s.enterState b st) := by
  rw [State.enterState_quiet h]
  exact (State.Beside.leaveState b _ st).trans (.setBay b _)

/-! ### Room in the Alarm List (R165, R167) -/

/-- The list takes another entry without loss of an ACTIVE one. -/
def AlarmState.HasRoom (a : AlarmState) : Prop :=
  a.entries.length < alarmLimit ∨ ∃ e ∈ a.entries, e.active = false

theorem makeRoom_of_hasRoom {a : AlarmState} (h : a.HasRoom) : ∃ es, makeRoom a.entries = some es := by
  unfold makeRoom
  obtain room | ⟨e, among, inactive⟩ := h
  · exact ⟨_, if_pos room⟩
  · have cleared : (a.entries.any fun e => !e.active) = true :=
      List.any_eq_true.2 ⟨e, among, by rw [inactive]; rfl⟩
    rw [cleared]
    split
    · exact ⟨_, rfl⟩
    · split
      · exact ⟨_, rfl⟩
      · exact ⟨_, rfl⟩

/-- A raise leaves an entry of its kind and bay, unacknowledged, ACTIVE unless the kind names an event, and with
its detail, or finds no room in the list and sets OVERFLOW. -/
theorem AlarmState.raise_leaves (a : AlarmState) (k : AlarmKind) (b : Option Nat) (d : Option AlarmDetail)
    (n : Seconds) : (∃ e ∈ (a.raise k b d n).1.entries,
        e.kind = k ∧ e.bay = b ∧ e.acked = false ∧ e.active = !k.isEvent ∧ e.detail = d) ∨
      (makeRoom a.entries = none ∧ (a.raise k b d n).1.overflow = true) := by
  unfold AlarmState.raise
  split
  · rename_i e found
    have stands := List.find?_some found
    have same : (!e.acked && decide (e.kind = k) && decide (e.bay = b)) = true := stands
    simp only [Bool.and_eq_true, Bool.not_eq_true', decide_eq_true_eq] at same
    obtain ⟨⟨unacked, kind⟩, bay⟩ := same
    exact .inl ⟨e.update d, List.mem_map.2 ⟨e, List.mem_of_find?_eq_some found, if_pos stands⟩, kind, bay, unacked,
      by rw [← kind]; rfl, rfl⟩
  · split
    · exact .inl ⟨_, List.mem_append_right _ (List.mem_singleton.2 rfl), rfl, rfl, rfl, rfl, rfl⟩
    · rename_i full
      exact .inr ⟨full, rfl⟩

/-- With room in the list a raise leaves its entry. -/
theorem AlarmState.raise_entry {a : AlarmState} (h : a.HasRoom) (k : AlarmKind) (b : Option Nat)
    (d : Option AlarmDetail) (n : Seconds) : ∃ e ∈ (a.raise k b d n).1.entries,
      e.kind = k ∧ e.bay = b ∧ e.acked = false ∧ e.active = !k.isEvent ∧ e.detail = d := by
  obtain ⟨es, room⟩ := makeRoom_of_hasRoom h
  refine (a.raise_leaves k b d n).resolve_right fun full => ?_
  cases full.1.symm.trans room

/-- With room in the list a condition raised is ACTIVE. -/
theorem AlarmState.raise_active {a : AlarmState} (h : a.HasRoom) {k : AlarmKind} (b : Option Nat)
    (d : Option AlarmDetail) (n : Seconds) (condition : k.isEvent = false) :
    (a.raise k b d n).1.isActive k b = true := by
  obtain ⟨e, among, kind, bay, -, active, -⟩ := AlarmState.raise_entry h k b d n
  rw [condition] at active
  exact List.any_eq_true.2 ⟨e, among, AlarmEntry.activeFor_eq.2 ⟨active, kind, bay⟩⟩

theorem AlarmState.HasRoom.clear {a : AlarmState} (h : a.HasRoom) (p : AlarmEntry → Bool) :
    (a.clear p).HasRoom := by
  obtain room | ⟨e, among, inactive⟩ := h
  · exact .inl (by rw [AlarmState.clear_length]; exact room)
  · exact .inr ⟨e, List.mem_map.2 ⟨e, among, by rw [inactive]; rfl⟩, inactive⟩

/-- An event raised leaves room: its own entry is CLEARED. -/
theorem AlarmState.HasRoom.event {a : AlarmState} (h : a.HasRoom) {k : AlarmKind} (event : k.isEvent = true)
    (b : Option Nat) (d : Option AlarmDetail) (n : Seconds) : (a.raise k b d n).1.HasRoom := by
  obtain ⟨e, among, -, -, -, active, -⟩ := AlarmState.raise_entry h k b d n
  exact .inr ⟨e, among, by rw [active, event]; rfl⟩

theorem State.endStep_alarms (s : State) (b : Nat) (x : StepResult) : (s.endStep b x).alarms = s.alarms := by
  unfold State.endStep
  split <;> rfl

theorem State.leaveState_hasRoom {s : State} (h : s.alarms.HasRoom) (b : Nat) (old : Option BayState)
    (st : BayState) : (s.leaveState b old st).alarms.HasRoom := by
  refine State.leaveState_keeps (P := fun t => t.alarms.HasRoom) (fun t ht => ?_)
    (fun _ _ _ ht => ht.clear _) (fun t ht => ?_) (fun _ _ ht => ht) (fun _ ht => ht.event rfl _ _ _) h old
  · unfold State.resetGap
    dsimp only
    split
    · exact ht.clear _
    · exact ht
  · rw [State.setBay_alarms, State.endStep_alarms]
    exact ht

theorem State.reportOperation_alarms (s : State) : s.reportOperation.alarms = s.alarms := by
  unfold State.reportOperation
  split <;> rfl

theorem State.operationDone_alarms (s : State) (o : Operation) : (s.operationDone o).alarms = s.alarms := by
  unfold State.operationDone
  dsimp only
  have reported := State.reportOperation_alarms (s.setOperation (some { o with
    status := .done, finish := some s.seconds }))
  split <;> split <;> simpa using reported

theorem State.giveOutcome_alarms (s : State) (b : Nat) (st : BayState) :
    (s.giveOutcome b st).alarms = s.alarms := by
  unfold State.giveOutcome
  split
  · rfl
  · split
    · split
      · rfl
      · dsimp only
        split
        · exact State.operationDone_alarms _ _
        · rfl
    · rfl

theorem State.noteOpened_alarms (s : State) (b : Nat) : (s.noteOpened b).alarms = s.alarms := by
  unfold State.noteOpened
  dsimp only
  split
  · split <;> rfl
  · rfl

/-- What a new state tells operation and map can end an alarm, and raises none. -/
theorem State.handOn_alarms (s : State) (b : Nat) (st : BayState) :
    (s.handOn b st).alarms = s.alarms ∨ (s.handOn b st).alarms =
      s.alarms.clear fun e => decide (e.kind = .bayConflict) && decide (e.bay = some b) := by
  have told := s.giveOutcome_alarms b st
  unfold State.handOn
  dsimp only
  generalize s.giveOutcome b st = t at told ⊢
  split
  · unfold State.reclassify
    rw [← told]
    split
    · split
      · exact .inl rfl
      · exact .inl rfl
      · dsimp only
        split
        · exact .inr rfl
        · exact .inl rfl
    · exact .inl rfl
  · exact .inl told

/-- Where neither the end of an alarm nor a raise matters, the alarms of a bay that has entered a state are as
those of one that has left its state before it. -/
theorem State.enterState_alarms (s : State) (b : Nat) (st : BayState) :
    (s.enterState b st).alarms = (s.leaveState b (s.bay b).state st).alarms ∨
      (s.enterState b st).alarms = (s.leaveState b (s.bay b).state st).alarms.clear
        fun e => decide (e.kind = .bayConflict) && decide (e.bay = some b) := by
  unfold State.enterState
  dsimp only
  generalize hu : (if st = .opened then State.noteOpened b
    ((s.leaveState b (s.bay b).state st).setBay b (Bay.enter st s.now)) else
    (s.leaveState b (s.bay b).state st).setBay b (Bay.enter st s.now)) = u
  have same : u.alarms = (s.leaveState b (s.bay b).state st).alarms := by
    rw [← hu]
    split
    · exact State.noteOpened_alarms _ _
    · rfl
  rw [← same]
  exact u.handOn_alarms b st

theorem State.enterState_hasRoom {s : State} (h : s.alarms.HasRoom) (b : Nat) (st : BayState) :
    (s.enterState b st).alarms.HasRoom := by
  have left := State.leaveState_hasRoom h b (s.bay b).state st
  obtain e | e := s.enterState_alarms b st
  · rw [e]
    exact left
  · rw [e]
    exact left.clear _

/-- The alarm kinds that the entry of a state leaves as they are. -/
def BayState.spares (st : BayState) (k : AlarmKind) : Bool :=
  !st.ends k && decide (k ≠ .gapOccupied) && decide (k ≠ .bayConflict) && decide (k ≠ .isolationExpired)

theorem State.enterState_isActive {s : State} {b : Nat} {st : BayState} {k : AlarmKind} (c : Option Nat)
    (h : st.spares k = true) : (s.enterState b st).alarms.isActive k c = s.alarms.isActive k c := by
  simp only [BayState.spares, Bool.and_eq_true, Bool.not_eq_true', decide_eq_true_eq] at h
  obtain ⟨⟨⟨stays, gap⟩, conflict⟩, expired⟩ := h
  have cleared : ∀ (a : AlarmState) (k' : AlarmKind), k ≠ k' → (a.clear fun e =>
      decide (e.kind = k') && decide (e.bay = some b)).isActive k c = a.isActive k c := fun a k' other =>
    AlarmState.clear_other _ fun e kind _ => by simp [kind, other]
  have left : (s.leaveState b (s.bay b).state st).alarms.isActive k c = s.alarms.isActive k c := by
    refine State.leaveState_keeps (P := fun t => t.alarms.isActive k c = s.alarms.isActive k c)
      (fun t ht => ?_) (fun k' t ended ht => (cleared _ _ fun e => ?_).trans ht) (fun t ht => ?_)
      (fun _ _ ht => ht) (fun t ht => (AlarmState.raise_other _ _ _ (.inl expired)).trans ht) rfl _
    · unfold State.resetGap
      dsimp only
      split
      · exact (cleared _ _ gap).trans ht
      · exact ht
    · rw [← e, stays] at ended
      cases ended
    · rw [State.setBay_alarms, State.endStep_alarms]
      exact ht
  obtain e | e := s.enterState_alarms b st
  · rw [e]
    exact left
  · rw [e]
    exact (cleared _ _ conflict).trans left

/-- A bay that enters FAULT has its alarm ACTIVE, where the list has room. -/
theorem State.faultBay_active {s : State} (h : s.alarms.HasRoom) (b : Nat) (w : FaultReason) {k : AlarmKind}
    (d : Option AlarmDetail) (condition : k.isEvent = false) :
    (s.faultBay b w k d).alarms.isActive k (some b) = true :=
  AlarmState.raise_active (State.enterState_hasRoom h b (.fault w)) (some b) d _ condition

/-! ### An operation on each bay of a list in turn -/

section
variable {P : State → Prop} {f : Nat → State → State}

theorem State.forBays_keeps {bs : List Nat} {s : State} (step : ∀ b ∈ bs, ∀ t, P t → P (f b t)) (hs : P s) :
    P (s.forBays bs f) := by
  induction bs generalizing s with
  | nil => exact hs
  | cons b bs ih =>
    exact ih (fun c hc => step c (List.mem_cons_of_mem b hc)) (step b List.mem_cons_self s hs)

/-- A bay that is not in the list stands. -/
theorem State.forBays_other {bs : List Nat} {s : State} {c : Nat} (hc : c ∉ bs)
    (other : ∀ b ∈ bs, ∀ t, c ≠ b → (f b t).bay c = t.bay c) : (s.forBays bs f).bay c = s.bay c := by
  refine State.forBays_keeps (P := fun t => t.bay c = s.bay c) (fun b hb t ht => ?_) rfl
  rw [other b hb t fun e => hc (e ▸ hb)]
  exact ht

/-- A bay of the list is changed once, in a state the changes before it have left, with its record as it was. -/
theorem State.forBays_each {bs : List Nat} {s : State} {b : Nat} (hb : b ∈ bs) (nodup : bs.Nodup)
    (step : ∀ b ∈ bs, ∀ t, P t → P (f b t)) (other : ∀ b ∈ bs, ∀ t c, c ≠ b → (f b t).bay c = t.bay c)
    (hs : P s) : ∃ t, P t ∧ t.bay b = s.bay b ∧ (s.forBays bs f).bay b = (f b t).bay b := by
  induction bs generalizing s with
  | nil => cases hb
  | cons x xs ih =>
    obtain ⟨fresh, nodup⟩ := List.nodup_cons.1 nodup
    by_cases same : b = x
    · subst same
      exact ⟨s, hs, rfl, State.forBays_other (s := f b s) fresh fun c hc t hne =>
        other c (List.mem_cons_of_mem b hc) t b hne⟩
    · have among : b ∈ xs := (List.mem_cons.1 hb).resolve_left same
      obtain ⟨t, ht, record, e⟩ := ih (s := f x s) among nodup
        (fun c hc => step c (List.mem_cons_of_mem x hc))
        (fun c hc => other c (List.mem_cons_of_mem x hc)) (step x List.mem_cons_self s hs)
      exact ⟨t, ht, record.trans (other x List.mem_cons_self s b same), e⟩

end

theorem upTo_nodup (n : Nat) : (upTo n).Nodup :=
  List.Pairwise.map (· + 1) (fun _ _ other same => other (Nat.succ.inj same)) List.nodup_range

theorem State.tableBays_nodup (s : State) : s.tableBays.Nodup := upTo_nodup _

end Sys2Proof.Machine
end

section
/-!
PROOFS. The commands that act on one bay: its timers (R68, R71, R72, R74, R90, R92, R95), the single-bay
actions and usage flags (R80 to R82), and commissioning steps (R94).
-/
namespace Sys2Proof.Machine
open Sys2Proof

/-! ### The end of a command that changes bays alone -/

section
variable {B : Nat → Prop} {s t : State}

theorem State.OnlyBays.finish (h : State.OnlyBays B s t) : State.OnlyBays B s t.finish :=
  h.trans (t.finish_onlyBays.mono fun _ => False.elim)

theorem State.OnlyBays.send (h : State.OnlyBays B s t) (x : SendState) :
    State.OnlyBays B s { t with send := x } := ⟨h.1, h.2, h.3, h.4, h.5⟩

/-- The start of a command changes no bay. -/
theorem State.onlyBays_begin (B : Nat → Prop) (s : State) : State.OnlyBays B s s.begin_ :=
  ⟨rfl, rfl, rfl, rfl, fun _ _ => rfl⟩

theorem State.OnlyBays.withEmer (h : State.OnlyBays B s t) (f : EmergencyState → EmergencyState) :
    State.OnlyBays B { s with emer := f s.emer } { t with emer := f t.emer } :=
  ⟨congrArg (fun x : Setting => { x with emer := f x.emer }) h.1, h.2, h.3, h.4, h.5⟩

theorem State.OnlyBays.now (h : State.OnlyBays B s t) : t.now = s.now := congrArg Setting.now h.1

end

theorem exec_event {s : State} (f : State → State) (powered : s.powered = true) :
    (Host.Outcome.next (s.event f) : Outcome) = .next (f s.begin_).finish :=
  congrArg Host.Outcome.next (State.event_eq f powered)

/-- A request no train may send leaves what follows from its decision. -/
theorem State.Accepts.request_finish {s : State} {r : Req} {k : ReqKind} {owner : State → Answer}
    (h : s.Accepts r k) (notTrain : k.allows .train = false) {x : Result} {d : Detail} {t : State}
    (answered : owner s.begin_ = ⟨x, d, t⟩) :
    ∃ y, (Host.Outcome.next (s.request_ r k owner) : Outcome) = .next { t.finish with send := y } ∧
      s.replyFrame r k.code x d ∈ y.sent := by
  obtain ⟨y, decided, replied⟩ := h.request_eq owner
  rw [h.taken_eq notTrain, answered] at decided replied
  exact ⟨y, congrArg Host.Outcome.next decided, replied⟩

theorem State.begin_bay (s : State) (b : Nat) : s.begin_.bay b = s.bay b := rfl

theorem State.inTable_low {s : State} {b : Nat} (h : s.inTable b = true) : 1 ≤ b := (of_decide_eq_true h).1

theorem State.bayIs_of {s : State} {b : Nat} {st : BayState} (h : (s.bay b).state = some st)
    (p : BayState → Bool) : s.bayIs b p = p st := by
  unfold State.bayIs
  rw [h]

theorem State.bayIs_iff {s : State} {b : Nat} {p : BayState → Bool} :
    s.bayIs b p = true ↔ ∃ st, (s.bay b).state = some st ∧ p st = true := by
  unfold State.bayIs
  cases (s.bay b).state <;> simp

theorem State.enterState_length (s : State) (b : Nat) (st : BayState) :
    (s.enterState b st).bays.length = s.bays.length :=
  (Stable.length { bay := fun _ => True } s.bays.length id).enterState st trivial rfl

theorem State.enterState_now (s : State) (b : Nat) (st : BayState) : (s.enterState b st).now = s.now :=
  ((Stable.onlyBays (· = b) s).enterState st rfl (State.OnlyBays.refl _ s)).now

/-! ### A bay that starts closing (R71) -/

/-- The state in which a bay that starts closing is left. -/
def State.closingState (s : State) (b : Nat) (c : CloseBy) : BayState :=
  if c.honoursPresence && s.effectivePresence b then
    (if s.param .doorwayHold = 0 then .closing .nudge else .closeWait) else .closing c.speed

section
variable {s : State} {b : Nat} (h1 : 1 ≤ b) (h2 : b ≤ s.bays.length)
include h1 h2

/-- A bay that enters a state in which a timer runs, other than OPEN, keeps its count. -/
theorem State.enterState_timed {st : BayState} (quiet : st.isQuiet = true) (timed : st.hasTimer = true) :
    ((s.enterState b st).bay b).state = some st ∧ ((s.enterState b st).bay b).timer = some s.now ∧
      ((s.enterState b st).bay b).retry = (s.bay b).retry := by
  rw [State.enterState_record h1 h2 (BayState.isQuiet_available quiet).2]
  refine ⟨rfl, ?_, ?_⟩
  · exact if_pos timed
  · cases st <;> first | rfl | cases quiet

/-- A bay that starts closing from a state other than CLOSE_WAIT: its state, its timer from now, its count. -/
theorem State.startClosing_bay (c : CloseBy) (notWaiting : s.bayIs b (· == .closeWait) = false) :
    ((s.startClosing b c).bay b).state = some (s.closingState b c) ∧
      ((s.startClosing b c).bay b).timer = some s.now ∧
      ((s.startClosing b c).bay b).retry = (s.bay b).retry := by
  unfold State.startClosing State.closingState
  rw [notWaiting]
  split
  · rw [if_neg Bool.false_ne_true]
    split
    · obtain ⟨-, -, kept⟩ := State.enterState_timed h1 h2 (st := .closeWait) rfl rfl
      obtain ⟨state, timer, retry⟩ := State.enterState_timed (s := s.enterState b .closeWait) h1
        (by rw [State.enterState_length]; exact h2) (st := .closing .nudge) rfl rfl
      rw [State.enterState_now] at timer
      exact ⟨state, timer, retry.trans kept⟩
    · exact State.enterState_timed h1 h2 rfl rfl
  · exact State.enterState_timed h1 h2 rfl rfl

end

/-- How a bay starts closing does not hang on what else is written of it. -/
theorem State.closingState_setBay {s : State} {b : Nat} {f : Bay → Bay} (c : CloseBy)
    (presence : (f (s.bay b)).presence = (s.bay b).presence) (stuck : (f (s.bay b)).stuck = (s.bay b).stuck) :
    (s.setBay b f).closingState b c = s.closingState b c := by
  have effective : (s.setBay b f).effectivePresence b = s.effectivePresence b := by
    unfold State.effectivePresence
    rw [State.bay_setBay_field Bay.presence b f presence, State.bay_setBay_field Bay.stuck b f stuck]
  unfold State.closingState
  rw [effective]
  rfl

/-- Settles O40: each timer takes its bay to the state it ends in, and no operation on one bay reaches
another. -/
theorem bayTimersEndTheirStates : Obligations.BayTimersEndTheirStates := by
  unfold Obligations.BayTimersEndTheirStates
  intro s b inv shaped powered low high
  have within : b ≤ s.begin_.bays.length := by
    rw [State.begin_bays, shaped]
    exact high
  have only := Stable.onlyBays (· = b) s
  have start := State.onlyBays_begin (· = b) s
  refine ⟨fun due => ⟨_, exec_event _ powered, ?_⟩, fun due => ⟨_, exec_event _ powered, ?_⟩,
    fun due => ⟨_, exec_event _ powered, ?_⟩, fun due => ⟨_, exec_event _ powered, ?_⟩⟩
  · rw [show s.begin_.openTimeout b = s.begin_.faultBay b .openTimeout .openTimeout none from if_pos due]
    refine ⟨(only.faultBay _ _ _ rfl start).finish, ?_, fun room => ?_⟩
    · rw [State.finish_bay]
      exact State.enterState_state low within _
    · rw [State.finish_hasActive _ _ (by decide)]
      exact State.faultBay_active (s := s.begin_) (.inl room) b _ none rfl
  · rw [show s.begin_.closeTimeout b = s.begin_.faultBay b .closeTimeout .closeTimeout none from if_pos due]
    refine ⟨(only.faultBay _ _ _ rfl start).finish, ?_, fun room => ?_⟩
    · rw [State.finish_bay]
      exact State.enterState_state low within _
    · rw [State.finish_hasActive _ _ (by decide)]
      exact State.faultBay_active (s := s.begin_) (.inl room) b _ none rfl
  · rw [show s.begin_.doorwayHoldExpiry b = s.begin_.enterState b (.closing .nudge) from if_pos due]
    refine ⟨(only.enterState _ rfl start).finish, ?_⟩
    rw [State.finish_bay]
    exact State.enterState_timed low within rfl rfl
  · rw [show s.begin_.recoveryTimerExpiry b = s.begin_.enterState b .locked from if_pos due]
    refine ⟨(only.enterState _ rfl start).finish, ?_⟩
    rw [State.finish_bay, State.enterState_record low within (st := .locked) nofun]
    exact ⟨rfl, rfl, rfl⟩

/-! ### REOPEN_HOLD (R74) -/

/-- Settles O41: below the limit the bay recloses by the rule of the close that took it, at the limit it is
HELD. -/
theorem reopenHoldReclosesOrHolds : Obligations.ReopenHoldReclosesOrHolds := by
  unfold Obligations.ReopenHoldReclosesOrHolds
  intro s b inv shaped powered low high due
  have within : b ≤ s.begin_.bays.length := by
    rw [State.begin_bays, shaped]
    exact high
  have only := Stable.onlyBays (· = b) s
  have start := State.onlyBays_begin (· = b) s
  have reopening : s.bayIs b (· == .closeWait) = false := by
    unfold State.reopenHoldDue at due
    obtain ⟨st, state, runs⟩ := State.bayIs_iff.1 (Bool.and_eq_true _ _ ▸ due).1
    rw [State.bayIs_of state]
    cases st <;> first | rfl | cases runs
  refine ⟨_, exec_event _ powered, ?_⟩
  rw [show s.begin_.reopenHoldExpiry b = s.begin_.reclose b from if_pos due]
  unfold State.reclose
  by_cases below : (s.bay b).retry < s.param .retryLimit
  · rw [if_pos (show (s.begin_.bay b).retry < s.begin_.param .retryLimit from below)]
    refine ⟨(only.startClosing _ rfl (only.bay b _ rfl start)).finish, fun _ => ?_,
      fun limit => absurd below (Nat.not_lt.2 limit)⟩
    have record := State.bay_setBay_self (s := s.begin_) (fun y : Bay => { y with retry := y.retry + 1 })
      low within
    have view := SameView.setBay (s := s.begin_) b (fun y : Bay => { y with retry := y.retry + 1 }) rfl rfl
    obtain ⟨state, -, retry⟩ := State.startClosing_bay low
      (by rw [State.setBay_length]; exact within) (s.bay b).closeRule ((view.bayIs b _).trans reopening)
    rw [State.finish_bay]
    refine ⟨retry.trans (congrArg Bay.retry record), state.trans (congrArg some ?_)⟩
    exact State.closingState_setBay (s := s.begin_) _ rfl rfl
  · rw [if_neg (show ¬ (s.begin_.bay b).retry < s.begin_.param .retryLimit from below)]
    refine ⟨(only.raise _ _ _ (only.enterState _ rfl start)).finish, fun h => absurd h below,
      fun _ => ⟨?_, fun room => ?_⟩⟩
    · rw [State.finish_bay]
      exact State.enterState_state low within _
    · rw [State.finish_hasActive _ _ (by decide)]
      exact AlarmState.raise_active (State.enterState_hasRoom (s := s.begin_) (.inl room) b _) _ _ _ rfl

/-! ### Discrepancy (R90) -/

/-- A bay that can fail enters FAULT, a RELEASED or ISOLATED bay and one without a state stand. -/
theorem State.failWhere_state {s : State} {b : Nat} (h1 : 1 ≤ b) (h2 : b ≤ s.bays.length)
    (w : FaultReason) :
    ((if s.bayIs b BayState.canFail then s.enterState b (.fault w) else s).bay b).state =
      (s.bay b).state.map fun x => if x = .released ∨ x = .isolated then x else .fault w := by
  cases state : (s.bay b).state with
  | none =>
    rw [if_neg (by unfold State.bayIs; rw [state]; exact Bool.false_ne_true), state]
    rfl
  | some st =>
    rw [State.bayIs_of state]
    by_cases kept : st = .released ∨ st = .isolated
    · have cannot : st.canFail = false := by obtain rfl | rfl := kept <;> rfl
      rw [cannot, if_neg Bool.false_ne_true, state, Option.map_some, if_pos kept]
    · have can : st.canFail = true := by
        cases st <;> first | rfl | exact absurd (by decide) kept
      rw [can, if_pos rfl, State.enterState_state h1 h2, Option.map_some, if_neg kept]

/-- The alarm raised before it is ACTIVE after it. -/
theorem State.failWhere_isActive {s : State} {b : Nat} {w : FaultReason} {k : AlarmKind} (c : Option Nat)
    (spared : (BayState.fault w).spares k = true) :
    (if s.bayIs b BayState.canFail then s.enterState b (.fault w) else s).alarms.isActive k c =
      s.alarms.isActive k c := by
  split
  · exact State.enterState_isActive c spared
  · rfl

/-- Settles O42: the alarm is raised whatever the state, and FAULT ends no PROVING_DISCREPANT. -/
theorem discrepancyTakesTheBayToFault : Obligations.DiscrepancyTakesTheBayToFault := by
  unfold Obligations.DiscrepancyTakesTheBayToFault
  intro s b inv shaped powered low high due
  have within : b ≤ s.begin_.bays.length := by
    rw [State.begin_bays, shaped]
    exact high
  have only := Stable.onlyBays (· = b) s
  have start := State.onlyBays_begin (· = b) s
  refine ⟨_, exec_event _ powered, ?_⟩
  rw [show s.begin_.discrepancyTimerExpiry b = s.begin_.discrepancy b from if_pos due]
  refine ⟨?_, ?_, fun room => ?_⟩
  · unfold State.discrepancy
    dsimp only
    have raised := only.raise .provingDiscrepant (some b) (some (.code (s.begin_.bay b).code))
      (only.bay b (fun y => { y with discrepancyTaken := true }) rfl start)
    split
    · exact (only.enterState _ rfl raised).finish
    · exact raised.finish
  · rw [State.finish_bay]
    unfold State.discrepancy
    rw [State.failWhere_state low (by
      show b ≤ (s.begin_.setBay b _).bays.length
      rw [State.setBay_length]
      exact within)]
    exact congrArg (Option.map _) (State.bay_setBay_field (s := s.begin_) Bay.state b _ rfl b)
  · rw [State.finish_hasActive _ _ (by decide)]
    exact (State.failWhere_isActive _ rfl).trans
      (AlarmState.raise_active (a := s.alarms) (.inl room) _ _ _ rfl)

/-! ### RETRY_BAY and CLOSE_BAY (R79 to R81) -/

theorem State.singleBay_accepted {s : State} {b : Nat} {p : BayState → Bool} (act : State → State)
    (working : s.working = true) (inTable : s.inTable b = true) (free : s.ownedByOperation b = false)
    (state : s.bayIs b p = true) : s.singleBay b p act = (act s).answer .accepted := by
  unfold State.singleBay
  simp [working, inTable, free, state]

/-- Settles O38: neither action reaches another bay; HELD and the states CLOSE_BAY takes are not
CLOSE_WAIT. -/
theorem singleBayActionsCloseOneBay : Obligations.SingleBayActionsCloseOneBay := by
  unfold Obligations.SingleBayActionsCloseOneBay
  intro s r b inv shaped working inTable high free
  have low := State.inTable_low inTable
  have within : b ≤ s.begin_.bays.length := by
    rw [State.begin_bays, shaped]
    exact high
  have only := Stable.onlyBays (· = b) s
  have start := State.onlyBays_begin (· = b) s
  have notWaiting : ∀ {p : BayState → Bool}, p .closeWait = false → s.bayIs b p = true →
      s.bayIs b (· == .closeWait) = false := fun {p} excluded h => by
    obtain ⟨st, state, holds⟩ := State.bayIs_iff.1 h
    rw [State.bayIs_of state]
    refine beq_eq_false_iff_ne.2 fun e => ?_
    rw [e, excluded] at holds
    cases holds
  refine ⟨fun accepted held => ?_, fun accepted closable => ?_⟩
  · obtain ⟨y, e, replied⟩ := accepted.request_finish rfl
      (State.singleBay_accepted (s := s.begin_) (State.retryBay b) working inTable free held)
    have record := State.bay_setBay_self (s := s.begin_)
      (fun y : Bay => { y with retry := 0, closeBy := some .retryBay }) low within
    have view := SameView.setBay (s := s.begin_) b
      (fun y : Bay => { y with retry := 0, closeBy := some .retryBay }) rfl rfl
    obtain ⟨state, -, retry⟩ := State.startClosing_bay low (by rw [State.setBay_length]; exact within)
      .retryBay ((view.bayIs b _).trans (notWaiting rfl held))
    refine ⟨_, e, ((only.retryBay rfl start).finish).send y, ?_, ?_, replied⟩
    · refine (congrArg Bay.retry (State.finish_bay _ b)).trans (retry.trans ?_)
      rw [record]
    · refine (congrArg Bay.state (State.finish_bay _ b)).trans (state.trans (congrArg some ?_))
      exact State.closingState_setBay (s := s.begin_) .retryBay rfl rfl
  · obtain ⟨y, e, replied⟩ := accepted.request_finish rfl
      (State.singleBay_accepted (s := s.begin_) (State.closeBay b) working inTable free closable)
    have record := State.bay_setBay_self (s := s.begin_)
      (fun y : Bay => { y with closeBy := some .closeBay }) low within
    have view := SameView.setBay (s := s.begin_) b (fun y : Bay => { y with closeBy := some .closeBay }) rfl rfl
    obtain ⟨state, timer, retry⟩ := State.startClosing_bay low (by rw [State.setBay_length]; exact within)
      .closeBay ((view.bayIs b _).trans (notWaiting rfl closable))
    refine ⟨_, e, ((only.closeBay rfl start).finish).send y, ?_, ?_, ?_, replied⟩
    · refine (congrArg Bay.retry (State.finish_bay _ b)).trans (retry.trans ?_)
      rw [record]
      rfl
    · exact (congrArg Bay.state (State.finish_bay _ b)).trans state
    · exact (congrArg Bay.timer (State.finish_bay _ b)).trans timer

/-! ### CLEAR_USAGE (R82) -/

theorem SameView.trans {s t u : State} (h : SameView s t) (g : SameView t u) : SameView s u where
  mode := by
    obtain same | ⟨serving, served⟩ := g.mode
    · rw [same]
      exact h.mode
    · obtain same | ⟨_, from_⟩ := h.mode
      · rw [same] at served
        exact .inr ⟨serving, served⟩
      · exact .inr ⟨serving, from_⟩
  state b := (g.state b).trans (h.state b)
  gap b := (g.gap b).trans (h.gap b)
  count := g.count.trans h.count
  busy := g.busy.trans h.busy
  map b := (g.map b).trans (h.map b)
  intrusion := g.intrusion.trans h.intrusion
  cause := g.cause.trans h.cause
  latched := g.latched.trans h.latched

/-- A change of the bays of a list, one after another, changes the bay records alone. -/
theorem State.forBays_setBay (s : State) (bs : List Nat) (f : Nat → Bay → Bay) :
    ∃ bays, s.forBays bs (fun b t => t.setBay b (f b)) = { s with bays := bays } :=
  State.forBays_keeps (P := fun t => ∃ bays, t = { s with bays := bays })
    (fun _ _ _ ⟨_, e⟩ => e ▸ ⟨_, rfl⟩) ⟨s.bays, rfl⟩

/-- Settles O39: the usage flags are read by no judgement. -/
theorem clearUsageClearsTheFlags : Obligations.ClearUsageClearsTheFlags := by
  unfold Obligations.ClearUsageClearsTheFlags
  intro s r inv shaped count accepted mode
  have settled := inv.settled_begin accepted.powered
  have within : ∀ {b}, s.inTable b = true → b ≤ s.begin_.bays.length := fun {b} inTable => by
    rw [State.begin_bays, shaped]
    exact Nat.le_trans (of_decide_eq_true inTable).2 count
  refine ⟨fun b inTable => ?_, ?_⟩
  · have decision : s.begin_.clearUsage (some b) = (s.begin_.setBay b Bay.clearUsage).answer .done := by
      unfold State.clearUsage
      rw [if_neg (by exact mode)]
      exact if_pos inTable
    obtain ⟨y, decided, replied⟩ := accepted.request_leaves rfl
      (settled.of_view (SameView.setBay b Bay.clearUsage rfl rfl) rfl rfl rfl rfl rfl) decision
    exact ⟨_, congrArg Host.Outcome.next decided,
      State.bay_setBay_self (s := s.begin_) _ (State.inTable_low inTable) (within inTable),
      ⟨rfl, rfl, rfl, rfl, fun c other => State.bay_setBay_ne (s := s.begin_) _ other⟩, rfl, rfl, rfl, rfl,
      replied⟩
  · have decision : s.begin_.clearUsage none =
        (s.begin_.forBays s.tableBays fun b t => t.setBay b Bay.clearUsage).answer .done :=
      if_neg (by exact mode)
    obtain ⟨bays, changed⟩ := s.begin_.forBays_setBay s.tableBays fun _ => Bay.clearUsage
    have view : SameView s.begin_ (s.begin_.forBays s.tableBays fun b t => t.setBay b Bay.clearUsage) :=
      State.forBays_keeps (fun b _ t h => h.trans (SameView.setBay b _ rfl rfl)) (SameView.refl _)
    have other : ∀ b ∈ s.tableBays, ∀ (t : State) c, c ≠ b → (t.setBay b Bay.clearUsage).bay c = t.bay c :=
      fun b _ t c different => State.bay_setBay_ne _ different
    have each : ∀ b, s.inTable b = true →
        (s.begin_.forBays s.tableBays fun b t => t.setBay b Bay.clearUsage).bay b = (s.bay b).clearUsage :=
      fun b inTable => by
        obtain ⟨t, length, record, e⟩ := State.forBays_each
          (P := fun t => t.bays.length = s.begin_.bays.length) (State.mem_tableBays.2 inTable)
          s.tableBays_nodup (fun b _ t h => (State.setBay_length t b _).trans h) other rfl
        rw [e, State.bay_setBay_self _ (State.inTable_low inTable) (by rw [length]; exact within inTable),
          record]
        rfl
    have rest : ∀ c, s.inTable c ≠ true →
        (s.begin_.forBays s.tableBays fun b t => t.setBay b Bay.clearUsage).bay c = s.bay c :=
      fun c outside => State.forBays_other (fun h => outside (State.mem_tableBays.1 h))
        fun b h t different => other b h t c different
    rw [changed] at decision view each rest
    obtain ⟨y, decided, replied⟩ := accepted.request_leaves rfl
      (settled.of_view view rfl rfl rfl rfl rfl) decision
    exact ⟨_, congrArg Host.Outcome.next decided, each, ⟨rfl, rfl, rfl, rfl, rest⟩, rfl, rfl, rfl, rfl, replied⟩

/-! ### Commissioning steps (R94, R95) -/

theorem State.testBayStep_accepted {s : State} {b : Nat} (mode : s.mode = .commissioning)
    (inTable : s.inTable b = true) (state : (s.bay b).state = some .locked ∨ (s.bay b).state = some .test)
    (idle : (s.bay b).progress = none) : s.testBayStep b = (s.testStep b).answer .accepted := by
  have takes : s.bayIs b (fun x => x == .locked || x == .test) = true := by
    obtain h | h := state <;> rw [State.bayIs_of h] <;> rfl
  unfold State.testBayStep
  simp [mode, inTable, takes, idle]

/-- Settles O50: a LOCKED bay enters TEST with no step behind it; a step begun or failed writes the step
record alone. -/
theorem testStepsRunAndExpire : Obligations.TestStepsRunAndExpire := by
  unfold Obligations.TestStepsRunAndExpire
  intro s b inv shaped low high
  have within : b ≤ s.begin_.bays.length := by
    rw [State.begin_bays, shaped]
    exact high
  have only := Stable.onlyBays (· = b) s
  have start := State.onlyBays_begin (· = b) s
  refine ⟨fun r accepted mode inTable => ⟨fun locked noStep => ?_, fun p last test step => ?_⟩,
    fun p x since last powered step past => ?_⟩
  · obtain ⟨y, e, replied⟩ := accepted.request_finish rfl (State.testBayStep_accepted (s := s.begin_) mode
      inTable (.inl locked) (by unfold Bay.progress; rw [State.begin_bay, noStep]))
    have entered : s.begin_.testStep b =
        (s.begin_.enterState b .test).setBay b (Bay.beginStep (s.begin_.enterState b .test).now) := by
      unfold State.testStep
      rw [if_pos (by rw [State.bayIs_of (s := s.begin_) locked]; rfl)]
    have record : (s.begin_.testStep b).bay b = Bay.beginStep s.now (Bay.enter .test s.now
        ((s.bay b).leave (s.bay b).state .test (s.request b).isSome)) := by
      rw [entered, State.bay_setBay_self _ low (by rw [State.enterState_length]; exact within),
        State.enterState_record low within (st := .test) nofun, State.enterState_now]
      rfl
    refine ⟨_, e, State.OnlyBays.send ?_ y, ?_, ?_, replied⟩
    · rw [entered]
      exact (only.bay b _ rfl (only.enterState _ rfl start)).finish
    · refine (congrArg Bay.state (State.finish_bay _ b)).trans ?_
      rw [record]
      unfold Bay.beginStep
      split <;> rfl
    · refine (congrArg Bay.step (State.finish_bay _ b)).trans ?_
      rw [record]
      unfold Bay.beginStep
      rw [show (Bay.enter .test s.now ((s.bay b).leave (s.bay b).state .test
        (s.request b).isSome)).step = none from noStep]
  · obtain ⟨y, e, replied⟩ := accepted.request_finish rfl (State.testBayStep_accepted (s := s.begin_) mode
      inTable (.inr test) (by unfold Bay.progress; rw [State.begin_bay, step]))
    have begun : s.begin_.testStep b = s.begin_.setBay b (Bay.beginStep s.now) := by
      unfold State.testStep
      rw [if_neg (by rw [State.bayIs_of (s := s.begin_) test]; decide)]
      rfl
    refine ⟨_, e, State.OnlyBays.send ?_ y, (State.finish_bay _ b).trans ?_, replied⟩
    · rw [begun]
      exact (only.bay b _ rfl start).finish
    · rw [begun, State.bay_setBay_self _ low within, State.begin_bay]
      unfold Bay.beginStep
      rw [step]
  · have due : s.begin_.stepLimitDue b = true := by
      unfold State.stepLimitDue
      rw [State.begin_bay, step]
      exact decide_eq_true past
    refine ⟨_, exec_event _ powered, ?_⟩
    rw [show s.begin_.stepTimeLimitExpiry b = s.begin_.endStep b .failed from if_pos due]
    refine ⟨(only.endStep _ rfl start).finish, (State.finish_bay _ b).trans ?_⟩
    exact State.endStep_running low within step .failed

end Sys2Proof.Machine
end

section
/-!
PROOFS. Isolation and restoring of one bay (R122, R142 to R148), polls and missed replies (R84, R87, R88), and
the runs of the sensors (R99 to R103).
-/
namespace Sys2Proof.Machine
open Sys2Proof

/-! ### The pending requests and the operation through a change of state -/

/-- A bay without a request takes none off the list by leaving a state. -/
theorem State.leaveState_doors {s : State} {b : Nat} (none : s.request b = none) (old : Option BayState)
    (st : BayState) : (s.leaveState b old st).doors = s.doors := by
  refine State.leaveState_keeps (P := fun t => t.doors = s.doors) (fun t ht => ?_) (fun _ _ _ ht => ht)
    (fun t ht => ?_) (fun _ requested _ => ?_) (fun _ ht => ht) rfl old
  · unfold State.resetGap
    dsimp only
    split <;> exact ht
  · refine Eq.trans ?_ ht
    unfold State.endStep
    split <;> rfl
  · rw [none] at requested
    cases requested

theorem State.reclassify_doors (s : State) (b : Nat) : (s.reclassify b).doors = s.doors := by
  unfold State.reclassify
  split
  · split
    · rfl
    · rfl
    · dsimp only
      split <;> rfl
  · rfl

/-- A bay without a request that enters ISOLATED changes neither the list nor the operation. -/
theorem State.enterIsolated_doors {s : State} {b : Nat} (none : s.request b = none) :
    (s.enterState b .isolated).doors = s.doors := by
  unfold State.enterState State.handOn
  dsimp only
  rw [if_neg (show BayState.isolated ≠ .opened from nofun), State.giveOutcome_none fun _ => rfl]
  exact (State.reclassify_doors _ b).trans (State.leaveState_doors none _ _)

theorem State.request_eq_none {s : State} {b : Nat} :
    s.request b = none ↔ ∀ q ∈ s.doors.requests, q.bay ≠ b := by
  unfold State.request
  rw [List.find?_eq_none]
  simp

/-- A request taken off the list is no longer pending. -/
theorem State.dropRequest_request (s : State) (b : Nat) : (s.dropRequest b).request b = none := by
  refine State.request_eq_none.2 fun q among => ?_
  have kept := (List.mem_filter.1 among).2
  simpa using kept

/-! ### An isolation that becomes effective (R144, R145) -/

section
variable {s : State} {b : Nat} (h1 : 1 ≤ b) (h2 : b ≤ s.bays.length)
include h1 h2

/-- The record of a bay that is isolated. -/
theorem State.isolate_bay (m : Isolation) : (s.isolate b m).bay b =
    { Bay.enter .isolated s.now (({ s.bay b with isolation := .notIsolated } : Bay).leave (s.bay b).state
      .isolated false) with isolation := m } := by
  have length : b ≤ (s.dropRequest b).bays.length := by
    rw [(Stable.length { bay := fun _ => True } s.bays.length id).dropRequest (b := b) trivial rfl]
    exact h2
  have dropped := State.dropRequest_bay h1 h2
  have entered := State.enterState_record (s := s.dropRequest b) h1 length (st := .isolated) nofun
  rw [State.dropRequest_request, dropped] at entered
  unfold State.isolate
  show (((s.dropRequest b).enterState b .isolated).setBay b _).bay b = _
  rw [State.bay_setBay_self _ h1 (by rw [State.enterState_length]; exact length), entered]
  rfl

end

theorem State.isolate_requests (s : State) (b : Nat) (m : Isolation) :
    (s.isolate b m).doors = { s.doors with requests := s.doors.requests.filter fun q => q.bay != b } :=
  State.enterIsolated_doors (s.dropRequest_request b)

/-! ### ISOLATE_BAY and ISOLATION_CONCURRENCE (R143, R145) -/

/-- LOCKED or FAULT: the states an isolation takes. -/
theorem State.bayIs_isolatable {s : State} {b : Nat}
    (h : (s.bay b).state = some .locked ∨ ∃ why, (s.bay b).state = some (.fault why)) :
    s.bayIs b (· == .isolated) = false ∧ s.bayIs b (fun x => x == .locked || x.isFault) = true := by
  obtain state | ⟨why, state⟩ := h <;> rw [State.bayIs_of state, State.bayIs_of state] <;> exact ⟨rfl, rfl⟩

theorem State.isolateBay_accepted {s : State} {b : Nat} (working : s.working = true)
    (inTable : s.inTable b = true)
    (state : (s.bay b).state = some .locked ∨ ∃ why, (s.bay b).state = some (.fault why))
    (fresh : s.request b = none) (room : s.doors.requests.length < 4)
    (limit : s.isolatedCount + s.doors.requests.length + 1 ≤ s.param .isolationLimit) :
    s.isolateBay b = (s.queueIsolation b).answer .accepted := by
  obtain ⟨notIsolated, takes⟩ := State.bayIs_isolatable state
  have within : ¬ pendingLimit ≤ s.doors.requests.length := Nat.not_le.2 room
  unfold State.isolateBay
  simp [working, inTable, notIsolated, takes, fresh, within, Nat.not_lt.2 limit]

theorem State.queueIsolation_fresh {s : State} {b : Nat} (fresh : s.request b = none) :
    s.queueIsolation b = State.setBay b (fun y => { y with isolation := .pending })
      { s with doors := { s.doors with requests := s.doors.requests ++ [⟨b, s.seconds, s.now⟩] } } := by
  have all : (s.doors.requests.filter fun q => q.bay != b) = s.doors.requests :=
    List.filter_eq_self.2 fun q among => by simpa using State.request_eq_none.1 fresh q among
  unfold State.queueIsolation
  rw [all]

theorem State.concur_accepted {s : State} {b : Nat} (working : s.working = true) (inTable : s.inTable b = true)
    (state : (s.bay b).state = some .locked ∨ ∃ why, (s.bay b).state = some (.fault why))
    (requested : (s.request b).isSome = true) : s.concur b = (s.isolate b .byConcurrence).answer .done := by
  obtain ⟨notIsolated, -⟩ := State.bayIs_isolatable state
  unfold State.concur
  simp [working, inTable, notIsolated, Option.isSome_iff_ne_none.1 requested]

/-- Settles O43: a request adds to the list, a concurrence takes it off and enters ISOLATED. -/
theorem isolationIsRequestedAndBecomesEffective : Obligations.IsolationIsRequestedAndBecomesEffective := by
  unfold Obligations.IsolationIsRequestedAndBecomesEffective
  intro s r b inv shaped working inTable high state
  have low := State.inTable_low inTable
  have within : b ≤ s.begin_.bays.length := by
    rw [State.begin_bays, shaped]
    exact high
  have only := Stable.onlyBays (· = b) s
  have start := State.onlyBays_begin (· = b) s
  refine ⟨fun accepted fresh room limit => ?_, fun accepted requested => ?_⟩
  · obtain ⟨y, e, replied⟩ := accepted.request_finish rfl
      (State.isolateBay_accepted (s := s.begin_) working inTable state fresh room limit)
    have doors : (s.begin_.queueIsolation b).doors =
        { s.doors with requests := s.doors.requests ++ [⟨b, s.seconds, s.now⟩] } :=
      congrArg State.doors (State.queueIsolation_fresh (s := s.begin_) fresh)
    have record : (s.begin_.queueIsolation b).bay b = { s.bay b with isolation := .pending } :=
      (congrArg (State.bay · b) (State.queueIsolation_fresh (s := s.begin_) fresh)).trans
        (State.bay_setBay_self _ low within)
    have queued : State.OnlyBays (· = b) s (s.begin_.queueIsolation b) :=
      ⟨rfl, rfl, rfl, rfl, fun c other => State.bay_setBay_ne _ other⟩
    exact ⟨_, e, queued.finish.send y,
      (congrArg DoorState.requests (State.finish_doors _)).trans (congrArg DoorState.requests doors),
      (congrArg DoorState.operation (State.finish_doors _)).trans
        ((congrArg DoorState.operation doors).trans rfl),
      (State.finish_bay _ b).trans record, replied⟩
  · obtain ⟨y, e, replied⟩ := accepted.request_finish rfl
      (State.concur_accepted (s := s.begin_) working inTable state requested)
    have record := State.isolate_bay low within .byConcurrence
    have alone : State.OnlyBays (· = b) s (s.begin_.isolate b .byConcurrence) := only.isolate _ rfl start
    have doors := congrArg DoorState.requests (s.begin_.isolate_requests b .byConcurrence)
    have gap : (({ s.begin_.bay b with isolation := .notIsolated } : Bay).leave (s.begin_.bay b).state
        .isolated false).gap = if (s.bay b).state = some .locked then .notRequired else (s.bay b).gap := by
      rw [State.begin_bay]
      obtain state | ⟨why, state⟩ := state <;> rw [state] <;> rfl
    generalize s.begin_.isolate b .byConcurrence = u at e record alone doors
    refine ⟨_, e, alone.finish.send y, (congrArg DoorState.requests (State.finish_doors u)).trans doors, ?_⟩
    show (u.finish.bay b).state = _ ∧ (u.finish.bay b).isolation = _ ∧ (u.finish.bay b).retry = _ ∧
      (u.finish.bay b).gap = _ ∧ _
    rw [State.finish_bay, record]
    exact ⟨rfl, rfl, rfl, gap, replied⟩

/-! ### DEISOLATE_BAY and the end of the window (R146, R148) -/

theorem State.deisolateBay_accepted {s : State} {b : Nat} (startup : s.mode ≠ .startup)
    (config : s.mode ≠ .configFault) (inTable : s.inTable b = true) (state : (s.bay b).state = some .isolated)
    (fit : (s.bay b).provenFit (·.iso) = true) :
    s.deisolateBay b = (s.enterState b .locked).answer .done := by
  have isolated : s.bayIs b (· == .isolated) = true := by rw [State.bayIs_of state]; rfl
  unfold State.deisolateBay
  simp [startup, config, inTable, isolated, fit]

/-- Settles O44: leaving ISOLATED ends the isolation, and the window takes its request off the list. -/
theorem isolationEnds : Obligations.IsolationEnds := by
  unfold Obligations.IsolationEnds
  intro s b inv shaped low high
  have within : b ≤ s.begin_.bays.length := by
    rw [State.begin_bays, shaped]
    exact high
  have only := Stable.onlyBays (· = b) s
  have start := State.onlyBays_begin (· = b) s
  refine ⟨fun r accepted startup config inTable state fit => ?_, fun powered due => ?_⟩
  · obtain ⟨y, e, replied⟩ := accepted.request_finish rfl
      (State.deisolateBay_accepted (s := s.begin_) startup config inTable state fit)
    have final := (State.finish_bay (s.begin_.enterState b .locked) b).trans
      (State.enterState_record low within (st := .locked) nofun)
    refine ⟨_, e, ((only.enterState _ rfl start).finish).send y, congrArg Bay.state final,
      (congrArg Bay.isolation final).trans ?_, congrArg Bay.retry final, replied⟩
    show (if ((s.bay b).state == some .isolated && _) = true then _ else _) = _
    rw [state]
    rfl
  · refine ⟨_, exec_event _ powered, ?_⟩
    rw [show s.begin_.isolationExpired b = (s.begin_.dropRequest b).raise .isolationExpired (some b) none
      from if_pos due]
    refine ⟨(only.raise _ _ _ (only.dropRequest rfl start)).finish, ?_, ?_,
      (State.finish_bay _ b).trans (State.dropRequest_bay (s := s.begin_) low within), fun room => ?_⟩
    · rw [State.finish_doors]
      rfl
    · rw [State.finish_doors]
      rfl
    · obtain ⟨e, among, kind, bay, acked, active, -⟩ :=
        AlarmState.raise_entry (a := s.alarms) (.inl room) .isolationExpired (some b) none s.seconds
      exact ⟨e, State.finish_entry _ among (by rw [kind]; decide), kind, bay, active, acked⟩

/-! ### RESTORE_BAY (R122) -/

theorem State.restoreBay_accepted {s : State} {b : Nat} (startup : s.mode ≠ .startup)
    (inTable : s.inTable b = true) (state : (s.bay b).state = some .released)
    (fit : (s.bay b).provenFit (·.releases) = true) : s.restoreBay b = (s.restore b).answer .done := by
  have released : s.bayIs b (· == .released) = true := by rw [State.bayIs_of state]; rfl
  unfold State.restoreBay
  simp [startup, inTable, released, fit]

/-- The emergency set without a bay. -/
def EmergencyState.without (b : Nat) (x : EmergencyState) : EmergencyState :=
  { x with released := x.released.filter fun y => y.1 != b }

theorem State.flagStatus_send (s : State) (c : Bool) : ∃ x, s.flagStatus c = { s with send := x } := by
  unfold State.flagStatus
  split
  · exact ⟨_, rfl⟩
  · exact ⟨s.send, rfl⟩

/-- A restored bay is LOCKED, out of the cause set, with BAY_RELEASED ended. -/
theorem State.restore_eq (s : State) (b : Nat) : ∃ d, s.restore b = { s.enterState b .locked with
    emer := (s.enterState b .locked).emer.without b
    alarms := (s.enterState b .locked).alarms.clear
      fun e => decide (e.kind = .bayReleased) && decide (e.bay = some b)
    send := d } := by
  unfold State.restore
  dsimp only
  generalize s.enterState b .locked = t
  obtain ⟨x, e⟩ := State.flagStatus_send (State.clear .bayReleased (some b)
    { t with emer := { t.emer with released := t.emer.released.filter fun x => x.1 != b } }) _
  rw [e]
  exact ⟨_, rfl⟩

/-- Settles O45: the bay enters LOCKED, and the cause set is without it. -/
theorem restoreBayLocksAReleasedBay : Obligations.RestoreBayLocksAReleasedBay := by
  unfold Obligations.RestoreBayLocksAReleasedBay
  intro s r b inv shaped high accepted startup inTable state fit
  have low := State.inTable_low inTable
  have within : b ≤ s.begin_.bays.length := by
    rw [State.begin_bays, shaped]
    exact high
  have entered := (Stable.onlyBays (· = b) s).enterState (b := b) .locked rfl (State.onlyBays_begin (· = b) s)
  obtain ⟨y, e, replied⟩ := accepted.request_finish rfl
    (State.restoreBay_accepted (s := s.begin_) startup inTable state fit)
  obtain ⟨d, restored⟩ := s.begin_.restore_eq b
  have record : (s.begin_.restore b).bay b = (s.begin_.enterState b .locked).bay b := by
    rw [restored]
    rfl
  rw [State.enterState_record low within (st := .locked) nofun] at record
  have final := (State.finish_bay (s.begin_.restore b) b).trans record
  have cut := entered.withEmer (EmergencyState.without b)
  have alone : State.OnlyBays (· = b) { s with emer := s.emer.without b } (s.begin_.restore b) := by
    rw [restored]
    exact ⟨cut.setting, cut.sense, cut.count, cut.berth, cut.bays⟩
  have ended : (s.begin_.restore b).hasActive .bayReleased (some b) = false := by
    rw [restored]
    exact AlarmState.clear_self _ fun e kind bay => by simp [kind, bay]
  exact ⟨_, e, congrArg Bay.state final, congrArg Bay.retry final, alone.finish.send y,
    (State.finish_hasActive _ _ (by decide)).trans ended, replied⟩

/-! ### Polls and missed replies (R84, R87, R88) -/

/-- The Door Bus is read by no judgement. -/
theorem State.Settled.of_bus {s : State} (h : s.Settled) (x : BusState) : State.Settled { s with bus := x } :=
  h.of_parts ⟨.inl rfl, rfl, rfl, fun _ => rfl, rfl, rfl, rfl⟩ rfl rfl rfl rfl rfl

/-- The state after a missed reply has been counted. -/
def State.countMiss (s : State) (b : Nat) : State :=
  { s with bus := { s.bus with awaiting := none } }.setBay b fun y =>
    { y with missed := min missedLimit ((s.bay b).missed + 1) }

/-- A node that is lost: what is written of it, its alarm, and what becomes of its bay. -/
theorem State.loseNode_eq (s : State) (b : Nat) : ∃ (t : State) (d : SendState) (x : Bay → Option Recon),
    t = { s.setBay b (fun y => { y with
      lost := true, cls := .unknown, discrepancyFrom := none, discrepancyTaken := false
      recoveryFrom := none, recon := x y }) with
      alarms := (s.alarms.raise .nodeLost (some b) none s.seconds).1, send := d } ∧
    s.loseNode b = if t.bayIs b BayState.canFail then t.enterState b (.fault .nodeLost) else t :=
  ⟨_, _, fun y => if s.inStartup && y.recon.isNone then some .lost else y.recon, rfl, rfl⟩

/-- Settles O48: a poll is recorded on the bus; a miss is counted, and the third loses the node. -/
theorem pollsAndMissedReplies : Obligations.PollsAndMissedReplies := by
  unfold Obligations.PollsAndMissedReplies
  intro s inv shaped powered
  refine ⟨fun free past => ⟨{ s.send with sent := [] }, ?_⟩, fun b awaiting low high => ?_⟩
  · have due : (s.begin_.bus.awaiting.isNone && s.begin_.slotOver) = true := by
      rw [State.begin_bus, free]
      exact decide_eq_true past
    have effect : s.begin_.poll = s.begin_.pollBay := if_pos due
    exact congrArg Host.Outcome.next ((State.event_of_settled powered
      (by rw [effect]; exact (inv.settled_begin powered).of_bus _)).trans effect)
  · have within : b ≤ s.begin_.bays.length := by
      rw [State.begin_bays, shaped]
      exact high
    have only := Stable.onlyBays (· = b) { s with bus := { s.bus with awaiting := none } }
    have counted : State.OnlyBays (· = b) { s with bus := { s.bus with awaiting := none } }
        (s.begin_.countMiss b) := only.bay b _ rfl ⟨rfl, rfl, rfl, rfl, fun _ _ => rfl⟩
    have record : (s.begin_.countMiss b).bay b =
        { s.bay b with missed := min missedLimit ((s.bay b).missed + 1) } :=
      State.bay_setBay_self (s := { s.begin_ with bus := { s.bus with awaiting := none } }) _ low within
    have length : (s.begin_.countMiss b).bays.length = s.begin_.bays.length := State.setBay_length _ _ _
    have missed : s.begin_.nodeReplyMissed = if (s.bay b).missed + 1 = missedLimit then
        (s.begin_.countMiss b).loseNode b else s.begin_.countMiss b := by
      unfold State.nodeReplyMissed
      rw [State.begin_bus, awaiting]
      rfl
    refine ⟨_, exec_event _ powered, ?_⟩
    rw [missed]
    by_cases third : (s.bay b).missed = 2
    · rw [if_pos (show (s.bay b).missed + 1 = missedLimit by rw [third]; rfl)]
      obtain ⟨t, d, x, e, lost⟩ := (s.begin_.countMiss b).loseNode_eq b
      have marked : State.OnlyBays (· = b) { s with bus := { s.bus with awaiting := none } } t := by
        rw [e]
        have changed := only.bay b (fun y => { y with
          lost := true, cls := .unknown, discrepancyFrom := none, discrepancyTaken := false
          recoveryFrom := none, recon := x y }) rfl counted
        exact ⟨changed.setting, changed.sense, changed.count, changed.berth, changed.bays⟩
      have bay : t.bay b = { s.bay b with
          missed := 3, lost := true, cls := .unknown, discrepancyFrom := none, discrepancyTaken := false
          recoveryFrom := none, recon := x { s.bay b with missed := 3 } } := by
        rw [e]
        refine (State.bay_setBay_self (s := s.begin_.countMiss b) _ low (by rw [length]; exact within)).trans ?_
        rw [record, third]
        rfl
      have long : b ≤ t.bays.length := by
        rw [e]
        show b ≤ ((s.begin_.countMiss b).setBay b _).bays.length
        rw [State.setBay_length, length]
        exact within
      have kept : ((if t.bayIs b BayState.canFail then t.enterState b (.fault .nodeLost) else t).bay b).missed = 3 ∧
          ((if t.bayIs b BayState.canFail then t.enterState b (.fault .nodeLost) else t).bay b).lost = true ∧
          ((if t.bayIs b BayState.canFail then t.enterState b (.fault .nodeLost) else t).bay b).cls = .unknown := by
        split
        · rw [State.enterState_record low long (st := .fault .nodeLost) nofun, bay]
          exact ⟨rfl, rfl, rfl⟩
        · rw [bay]
          exact ⟨rfl, rfl, rfl⟩
      have fails := State.failWhere_state low long (s := t) .nodeLost
      rw [lost]
      refine ⟨?_, fun h => absurd third (Nat.ne_of_lt h), fun _ => ?_⟩
      · split
        · exact (only.enterState _ rfl marked).finish
        · exact marked.finish
      · rw [State.finish_bay]
        obtain ⟨counted, down, unknown⟩ := kept
        refine ⟨counted, down, unknown, ?_, fun room => ?_⟩
        · rw [fails, bay]
        · rw [State.finish_hasActive _ _ (by decide)]
          refine (State.failWhere_isActive _ rfl).trans ?_
          rw [e]
          exact AlarmState.raise_active (a := s.alarms) (.inl room) _ _ _ rfl
    · rw [if_neg fun h : (s.bay b).missed + 1 = missedLimit => third (Nat.succ.inj h)]
      refine ⟨counted.finish, fun few => ?_, fun h => absurd h third⟩
      rw [State.finish_bay, record, Nat.min_eq_right (by unfold missedLimit; omega)]

/-! ### The runs of the sensors (R99 to R103) -/

/-- Settles O51: a stuck sensor counts as clear, and a check decided writes the check alone. -/
theorem sensorRunsDecide : Obligations.SensorRunsDecide := by
  unfold Obligations.SensorRunsDecide
  intro s b inv shaped powered high
  have within : b ≤ s.begin_.bays.length := by
    rw [State.begin_bays, shaped]
    exact high
  have only := Stable.onlyBays (· = b) s
  have start := State.onlyBays_begin (· = b) s
  refine ⟨fun due => ⟨_, exec_event _ powered, ?_⟩, fun due => ⟨_, exec_event _ powered, ?_⟩,
    fun due => ⟨_, exec_event _ powered, ?_⟩⟩
  · have low : 1 ≤ b := by
      unfold State.presenceStuckDue at due
      simp only [Bool.and_eq_true] at due
      exact State.inTable_low due.1.1.1
    obtain ⟨t, e, effect⟩ : ∃ t, t = (s.begin_.setBay b fun x => { x with stuck := true }).raise .presenceStuck
        (some b) none ∧ s.begin_.presenceStuck b =
        if t.bayIs b (· == .closeWait) then t.enterState b (.closing .nudge) else t := ⟨_, rfl, if_pos due⟩
    have bay : t.bay b = { s.bay b with stuck := true } := by
      rw [e]
      exact State.bay_setBay_self (s := s.begin_) _ low within
    have long : b ≤ t.bays.length := by
      rw [e]
      show b ≤ (s.begin_.setBay b _).bays.length
      rw [State.setBay_length]
      exact within
    have marked : State.OnlyBays (· = b) s t := by
      rw [e]
      exact only.raise _ _ _ (only.bay b _ rfl start)
    have alarm : s.alarms.entries.length < 48 → t.alarms.isActive .presenceStuck (some b) = true := fun room => by
      rw [e]
      exact AlarmState.raise_active (a := s.alarms) (.inl room) _ _ _ rfl
    rw [effect]
    unfold State.effectivePresence
    rw [State.finish_bay, State.finish_hasActive _ _ (by decide)]
    by_cases waits : (s.bay b).state = some .closeWait
    · rw [if_pos (by rw [State.bayIs_of (by rw [bay]; exact waits)]; rfl),
        State.enterState_record low long (st := .closing .nudge) nofun, bay]
      refine ⟨(only.enterState _ rfl marked).finish, rfl, Bool.and_false _, (if_pos waits).symm, fun room => ?_⟩
      exact (State.enterState_isActive (s := t) (some b) rfl).trans (alarm room)
    · have other : t.bayIs b (· == .closeWait) = false := Bool.eq_false_iff.2 fun h => by
        obtain ⟨st, state, is⟩ := State.bayIs_iff.1 h
        rw [bay] at state
        exact waits (state.trans (congrArg some (beq_iff_eq.1 is)))
      rw [other, if_neg Bool.false_ne_true, bay]
      exact ⟨marked.finish, rfl, Bool.and_false _, (if_neg waits).symm, alarm⟩
  · have low : 1 ≤ b := by
      unfold State.gapPassDue at due
      simp only [Bool.and_eq_true] at due
      exact State.inTable_low due.1.1.1
    have effect : s.begin_.gapCheckPassed b = if (s.bay b).gap = .failed then
        ((s.begin_.setBay b fun x => { x with gap := .passed }).clear .gapOccupied (some b)).gapNotice b
        else s.begin_.setBay b fun x => { x with gap := .passed } := if_pos due
    have record := State.bay_setBay_self (s := s.begin_) (fun x : Bay => { x with gap := .passed }) low within
    rw [effect, State.finish_bay, State.finish_hasActive _ _ (by decide)]
    have passed := only.bay (s := s.begin_) b (fun x : Bay => { x with gap := .passed }) rfl start
    split
    · exact ⟨(only.gapNotice b (only.clear _ _ passed)).finish, record,
        fun _ => AlarmState.clear_self _ fun e kind bay => by simp [kind, bay]⟩
    · rename_i notFailed
      exact ⟨passed.finish, record, fun failed => absurd failed notFailed⟩
  · have inTable : s.inTable b = true := by
      unfold State.gapFailDue at due
      simp only [Bool.and_eq_true] at due
      exact due.1.1.1
    have low := State.inTable_low inTable
    have effect : s.begin_.gapCheckFailed b = ((s.begin_.setBay b fun x => { x with gap := .failed }).raise
        .gapOccupied (some b) none).gapNotice b := if_pos due
    have record : (s.begin_.gapCheckFailed b).bay b = { s.bay b with gap := .failed } := by
      rw [effect]
      exact State.bay_setBay_self (s := s.begin_) _ low within
    refine ⟨?_, (State.finish_bay _ b).trans record, ?_, fun room => ?_⟩
    · rw [effect]
      exact (only.gapNotice b (only.raise _ _ _ (only.bay b _ rfl start))).finish
    · rw [State.finish_secure]
      refine Bool.eq_false_iff.2 fun empty => ?_
      have closed := ((State.judge_isEmpty_iff _).1 empty).gaps b (by rw [effect]; exact inTable)
      rw [record] at closed
      cases closed
    · rw [State.finish_hasActive _ _ (by decide), effect]
      exact AlarmState.raise_active (a := s.alarms) (.inl room) _ _ _ rfl

end Sys2Proof.Machine
end

section
/-!
PROOFS. The berth: identity (R30, R31), an alignment (R44 to R47), movement before an opening and after a
closing (R37, R38), and departure and retirement (R39 to R41, R104).
-/
namespace Sys2Proof.Machine
open Sys2Proof

/-! ### What is only told -/

/-- `t` is `s` but for the Alarm List and what is sent. -/
def State.Tells (s t : State) : Prop := ∃ a d, t = { s with alarms := a, send := d }

namespace State.Tells

theorem refl (s : State) : s.Tells s := ⟨s.alarms, s.send, rfl⟩

theorem trans {s t u : State} (h : s.Tells t) (g : t.Tells u) : s.Tells u := by
  obtain ⟨_, _, rfl⟩ := h
  obtain ⟨_, _, rfl⟩ := g
  exact ⟨_, _, rfl⟩

variable (s : State)

theorem raise (k : AlarmKind) (b : Option Nat) (d : Option AlarmDetail) : s.Tells (s.raise k b d) :=
  ⟨_, _, rfl⟩

/-- Alarms raised one after another. -/
theorem raises {α : Type} (f : State → α → State) (each : ∀ (t : State) x, t.Tells (f t x)) (xs : List α) :
    s.Tells (xs.foldl f s) := by
  induction xs generalizing s with
  | nil => exact .refl s
  | cons x xs ih => exact (each s x).trans (ih _)

end State.Tells

/-! ### The phase at the end of a command -/

/-- The phases that wait on the bays and the gap checks (R38). -/
def Phase.waits : Phase → Bool
  | .opening | .opened | .closing | .closedProving => true
  | _ => false

/-- A phase that does not wait stands. -/
theorem State.settledPhase_stands {s : State} (h : s.berth.phase.waits = false) :
    s.settledPhase = s.berth.phase := by
  unfold State.settledPhase
  cases phase : s.berth.phase <;> rw [phase] at h <;> first | rfl | cases h

/-- So the end of a command leaves the berth as the command made it. -/
theorem State.finish_stands {s : State} (h : s.berth.phase.waits = false) : s.finish.berth = s.berth :=
  State.finish_berth (State.settledPhase_stands h)

theorem AlignOutcome.phase_waits (x : AlignOutcome) : x.phase.waits = false := by cases x <;> rfl

/-! ### A request while the Train Link is UP -/

/-- The start of a command with link timers `l`. -/
def State.linked (s : State) (l : LinkState) : State := { s.begin_ with link := l }

theorem State.taken_up {s : State} (up : s.link.trainUp = true) (p : Port) :
    ∃ l, s.taken p = (s.linked l) := by
  by_cases train : p = .train
  · subst train
    exact ⟨_, State.taken_train up⟩
  · exact ⟨s.link, if_neg train⟩

/-- With the Train Link UP a request of any link is decided on the state as it stands, link timers aside. -/
theorem State.Accepts.request_up {s : State} {r : Req} {k : ReqKind} (h : s.Accepts r k)
    (up : s.link.trainUp = true) (owner : State → Answer) {x : Result} {d : Detail} (t : LinkState → State)
    (answered : ∀ l, owner (s.linked l) = ⟨x, d, t l⟩) :
    ∃ l y, (s.linked l) = s.taken r.port ∧
      (Host.Outcome.next (s.request_ r k owner) : Outcome) = .next { (t l).finish with send := y } ∧
      s.replyFrame r k.code x d ∈ y.sent := by
  obtain ⟨y, decided, replied⟩ := h.request_eq owner
  obtain ⟨l, e⟩ := s.taken_up up r.port
  rw [e, answered] at decided replied
  exact ⟨l, y, e.symm, congrArg Host.Outcome.next decided, replied⟩

/-! ### Identity (R30, R31) -/

/-- A change of the berth record that leaves its alignment is not judged. -/
theorem State.Settled.of_record {s : State} (h : s.Settled) {f : Berth → Berth}
    (align : ∀ r, (f r).align = r.align) : (s.setRecord f).Settled :=
  h.of_berth s.send rfl (by
    show (s.berth.record.map f).map _ = _
    rw [Option.map_map]
    exact congrArg (Option.map · s.berth.record) (funext align))

theorem State.settlePending_idle {s : State} (h : s.berth.pendingStop = false) : s.settlePending = s := by
  unfold State.settlePending
  rw [h]
  rfl

/-- IDENTIFY of a good train in ARRIVING, with a record. -/
theorem State.identify_arriving {s : State} {f : IdentifyFields} {o : Orientation} {b : Berth}
    (working : s.working = true) (phase : s.berth.phase = .arriving) (record : s.berth.record = some b)
    (known : s.profileKnown f.profile = true) (named : f.orientation = .named o) :
    s.identify f = s.identifyRecord ⟨f.trainId, f.profile, o⟩ b := by
  unfold State.identify State.knownTrain
  simp [working, named, known, phase, record]

theorem Identity.matches_iff {i : Identity} {b : Berth} : i.matches b = true ↔
    b.trainId = some i.trainId ∧ b.profile = some i.profile ∧ b.orientation = some i.orientation := by
  unfold Identity.matches
  simp [and_assoc]

section
variable {s : State} {i : Identity} {b : Berth} (undisputed : b.disputed = false)
include undisputed

theorem State.identifyRecord_fills (unannounced : b.announced = false) (pending : s.berth.pendingStop = false) :
    s.identifyRecord i b = (s.setRecord i.write).answer .done := by
  have idle : (s.setRecord i.write).settlePending = s.setRecord i.write := State.settlePending_idle pending
  unfold State.identifyRecord
  simp [undisputed, unannounced, idle]

theorem State.identifyRecord_confirms (announced : b.announced = true) (same : i.matches b = true) :
    s.identifyRecord i b = (s.setRecord fun x => { x with
      identified := true, identifiedId := some i.trainId }).answer .done := by
  unfold State.identifyRecord
  simp [undisputed, announced, same]

theorem State.identifyRecord_disputes (announced : b.announced = true) (differs : i.matches b = false) :
    s.identifyRecord i b = (s.dispute i).answer .done := by
  unfold State.identifyRecord
  simp [undisputed, announced, differs]

end

/-- Settles O23: the three outcomes of IDENTIFY write the record alone, and leave the part settled. -/
theorem identifyFillsOrDisputesTheRecord : Obligations.IdentifyFillsOrDisputesTheRecord := by
  unfold Obligations.IdentifyFillsOrDisputesTheRecord
  intro s r f o b inv accepted up working phase record pending undisputed known named
  have settled : ∀ l, (s.linked l) = s.taken r.port → (s.linked l).Settled :=
    fun l e => e ▸ inv.taken_settled accepted.powered r.port
  have decision : ∀ l, State.identify f (s.linked l) =
      State.identifyRecord ⟨f.trainId, f.profile, o⟩ b (s.linked l) := fun l =>
    State.identify_arriving (s := s.linked l) working phase record known named
  have written : ∀ g : Berth → Berth, (s.berth.record.map g) = some (g b) := fun g => by rw [record]; rfl
  refine ⟨fun unannounced => ?_, fun announced train profile orientation => ?_, fun announced differs => ?_⟩
  · obtain ⟨l, y, e, done, replied⟩ := accepted.request_up up (State.identify f) (x := .done) (d := .empty)
      (fun l => State.setRecord (Identity.write ⟨f.trainId, f.profile, o⟩) (s.linked l))
      (fun l => (decision l).trans (State.identifyRecord_fills undisputed unannounced pending))
    rw [((settled l e).of_record (f := Identity.write ⟨f.trainId, f.profile, o⟩) fun _ => rfl).finish_eq] at done
    exact ⟨_, done, written _, rfl, rfl, rfl, phase, replied⟩
  · obtain ⟨l, y, e, done, replied⟩ := accepted.request_up up (State.identify f) (x := .done) (d := .empty)
      (fun l => State.setRecord (fun x => { x with identified := true, identifiedId := some f.trainId })
        (s.linked l))
      (fun l => (decision l).trans (State.identifyRecord_confirms undisputed announced
        (Identity.matches_iff.2 ⟨train, profile, orientation⟩)))
    rw [((settled l e).of_record (f := fun x => { x with identified := true, identifiedId := some f.trainId })
      fun _ => rfl).finish_eq] at done
    exact ⟨_, done, written _, rfl, rfl, rfl, phase, replied⟩
  · obtain ⟨l, y, e, done, replied⟩ := accepted.request_up up (State.identify f) (x := .done) (d := .empty)
      (fun l => State.dispute ⟨f.trainId, f.profile, o⟩ (s.linked l))
      (fun l => (decision l).trans (State.identifyRecord_disputes undisputed announced
        (Bool.eq_false_iff.2 fun h => differs (Identity.matches_iff.1 h))))
    have detail : ((s.berth.record.map fun x : Berth => { x with
        disputed := true, identifiedId := some f.trainId, permit := .notGranted }).bind (·.profile)) = b.profile := by
      rw [record]
      rfl
    have disputed : State.Settled (State.dispute ⟨f.trainId, f.profile, o⟩ (s.linked l)) :=
      ((settled l e).of_record (f := fun x => { x with
        disputed := true, identifiedId := some f.trainId, permit := .notGranted }) fun _ => rfl).of_alarms _
        (AlarmState.raise_movement _ _ _ _ nofun)
    rw [disputed.finish_eq] at done
    refine ⟨_, done, written _, ?_, rfl, rfl, phase, replied⟩
    exact congrArg (fun p => (s.alarms.raise .identityMismatch none (some (.profiles p f.profile)) s.seconds).1)
      detail

/-! ### An alignment (R44 to R47) -/

/-- An alignment outside EVACUATION writes the record's alignment and the phase, and tells. -/
theorem State.align_tells {s : State} (slot : Nat) (o : Orientation) (noEvac : s.emer.evacuation = false) :
    ∃ c, State.Tells { s with berth := { s.berth with
      record := s.berth.record.map fun r => { r with
        align := alignment s.content s.availableBays slot o s.lines.beams s.berth.heldOffset }
      pendingStop := false
      phase := (alignment s.content s.availableBays slot o s.lines.beams s.berth.heldOffset).outcome.phase
      clearFrom := c } } (s.align slot o) := by
  unfold State.align
  dsimp only
  generalize alignment s.content s.availableBays slot o s.lines.beams s.berth.heldOffset = a
  generalize alignmentAlarms slot o s.lines.beams _ a = xs
  obtain ⟨al, d, raised⟩ := State.Tells.raises { State.setRecord (fun r => { r with align := a })
      (s.clearWhere fun e => e.kind.ofAlignment) with berth := { (State.setRecord (fun r => { r with align := a })
      (s.clearWhere fun e => e.kind.ofAlignment)).berth with pendingStop := false } }
    (fun t x => t.raise x.1 x.2.1 (some x.2.2)) (fun t _ => .raise t _ _ _) xs
  rw [raised]
  obtain ⟨c, d', moved⟩ := State.setPhase_parts { State.setRecord (fun r => { r with align := a })
      (s.clearWhere fun e => e.kind.ofAlignment) with
    berth := { (State.setRecord (fun r => { r with align := a })
      (s.clearWhere fun e => e.kind.ofAlignment)).berth with pendingStop := false }
    alarms := al, send := d } a.outcome.phase
  rw [moved, if_neg fun h => Bool.false_ne_true (noEvac.symm.trans h.2)]
  exact ⟨c, al, _, rfl⟩

/-- The berth an alignment leaves, bays and operation as they were. -/
theorem State.align_parts {s : State} (slot : Nat) (o : Orientation) (noEvac : s.emer.evacuation = false)
    {b : Berth} (record : s.berth.record = some b) {a : AlignResult}
    (made : a = alignment s.content s.availableBays slot o s.lines.beams s.berth.heldOffset) :
    (s.align slot o).finish.berth.record = some { b with align := a } ∧
      (s.align slot o).finish.berth.phase = a.outcome.phase ∧
      (s.align slot o).finish.berth.heldOffset = s.berth.heldOffset ∧
      (s.align slot o).finish.berth.stopTaken = s.berth.stopTaken ∧
      (s.align slot o).finish.bays = s.bays ∧ (s.align slot o).finish.doors = s.doors := by
  obtain ⟨c, al, d, e⟩ := State.align_tells slot o noEvac
  subst made
  have phase : (s.align slot o).berth.phase.waits = false := by
    rw [e]
    exact AlignOutcome.phase_waits _
  rw [State.finish_stands phase, State.finish_bays, State.finish_doors, e]
  exact ⟨by rw [record]; rfl, rfl, rfl, rfl, rfl, rfl⟩

theorem State.settled_eq {s : State} {b : Berth} {p : Nat} {o : Orientation} (record : s.berth.record = some b)
    (undisputed : b.disputed = false) (profile : b.profile = some p) (orientation : b.orientation = some o) :
    s.settled = some (p, o) := by
  unfold State.settled Berth.settled
  rw [record]
  simp [undisputed, profile, orientation]

/-- A stop of a settled berth that waits for one aligns it. -/
theorem State.takeStop_settled {s : State} {p : Nat} {o : Orientation} (working : s.working = true)
    (phase : s.berth.phase = .arriving ∨ s.berth.phase = .occupiedUnknown) (settled : s.settled = some (p, o)) :
    s.takeStop = s.align p o := by
  unfold State.takeStop
  rw [working, decide_eq_true phase, settled]
  rfl

theorem State.holdOffset_eq (d : Option Mm) (near : ∀ x, d = some x → -4000 ≤ x ∧ x ≤ 4000) (s : State) :
    s.holdOffset d = { s with berth := { s.berth with
      heldOffset := if d.isSome then d else s.berth.heldOffset } } := by
  unfold State.holdOffset usableOffset
  cases d with
  | none => rfl
  | some x =>
    obtain ⟨low, high⟩ := near x rfl
    simp [offsetLimit, low, high]

/-- A STOPPED takes the stop of a berth that waits for one. -/
theorem State.stop_waiting (d : Option Mm) (near : ∀ x, d = some x → -4000 ≤ x ∧ x ≤ 4000) {s : State}
    (phase : s.berth.phase = .arriving ∨ s.berth.phase = .occupiedUnknown) :
    s.stop d = State.takeStop { s with berth := { s.berth with
      heldOffset := if d.isSome then d else s.berth.heldOffset } } := by
  unfold State.stop
  rw [State.holdOffset_eq d near s]
  dsimp only
  obtain phase | phase := phase <;> rw [phase]

/-- A report of the train that is taken. -/
theorem State.report_taken {s : State} (f : State → State) (working : s.working = true)
    (berthed : s.berth.phase ≠ .vacant) : s.report f = (f s).answer .done := by
  unfold State.report
  rw [working, if_neg berthed]
  rfl

/-- Settles O26: both stops come to `State.takeStop`, which aligns a settled berth. -/
theorem aStopAlignsASettledBerth : Obligations.AStopAlignsASettledBerth := by
  unfold Obligations.AStopAlignsASettledBerth
  intro s r b p o inv working phase record undisputed profile orientation noEvac
  have berthed : s.berth.phase ≠ .vacant := fun h => by
    obtain phase | phase := phase <;> rw [phase] at h <;> cases h
  refine ⟨fun d accepted up near => ?_, fun powered due => ?_⟩
  · have effect : ∀ l, State.stop d (s.linked l) = State.align p o { s.linked l with
        berth := { s.berth with heldOffset := if d.isSome then d else s.berth.heldOffset } } :=
      fun l => (State.stop_waiting d near (s := s.linked l) phase).trans
        (State.takeStop_settled working phase (State.settled_eq (b := b) record undisputed profile orientation))
    obtain ⟨l, y, -, done, replied⟩ := accepted.request_up up (State.report (State.stop d)) (x := .done)
      (d := .empty) (fun l => State.align p o { s.linked l with
        berth := { s.berth with heldOffset := if d.isSome then d else s.berth.heldOffset } })
      (fun l => (State.report_taken (s := s.linked l) _ working berthed).trans
        (congrArg (State.answer · .done) (effect l)))
    obtain ⟨aligned, moved, held, -, bays, doors⟩ := State.align_parts (s := { s.linked l with
        berth := { s.berth with heldOffset := if d.isSome then d else s.berth.heldOffset } })
      p o noEvac record rfl
    exact ⟨_, _, done, rfl, aligned, moved, held, bays, doors, replied⟩
  · have effect : s.begin_.beamStop = State.align p o { s.begin_ with
        berth := { s.berth with stopTaken := true } } := by
      refine (if_pos due).trans ?_
      exact State.takeStop_settled working phase (State.settled_eq (b := b) record undisputed profile orientation)
    obtain ⟨aligned, moved, -, taken, bays, doors⟩ := State.align_parts (s := { s.begin_ with
        berth := { s.berth with stopTaken := true } }) p o noEvac record rfl
    rw [← effect] at aligned moved taken bays doors
    exact ⟨_, _, exec_event _ powered, rfl, aligned, moved, taken, bays, doors⟩

/-! ### Movement (R37, R38) -/

/-- The return to ARRIVING, or to DEPARTING with beam 0 clear, without the alignment. -/
theorem State.backToArriving_tells (s : State) : ∃ c, State.Tells { s with berth := { s.berth with
      record := s.berth.record.map fun r => { r with align := .clear }
      phase := if s.beam0 then .arriving else .departing
      clearFrom := c } } s.backToArriving := by
  unfold State.backToArriving
  obtain ⟨c, d, arriving⟩ := State.setPhase_parts s.clearAlignment .arriving
  rw [arriving]
  generalize reported : State.sendBerthReport _ = u
  have beam : u.beam0 = s.beam0 := by rw [← reported]; rfl
  dsimp only
  rw [beam]
  cases hb : s.beam0 with
  | true =>
    rw [← reported]
    exact ⟨c, _, _, rfl⟩
  | false =>
    obtain ⟨c', d', departing⟩ := State.setPhase_parts u .departing
    refine ⟨c', (s.clearAlignment).alarms, d', departing.trans ?_⟩
    rw [← reported]
    rfl

/-- Settles O27: MOVING clears the alignment before an opening and departs after a closing. -/
theorem movingBeforeOpeningOrAfterClosing : Obligations.MovingBeforeOpeningOrAfterClosing := by
  unfold Obligations.MovingBeforeOpeningOrAfterClosing
  intro s r b inv accepted up working record
  refine ⟨fun phase => ?_, fun phase => ?_⟩
  · have berthed : s.berth.phase ≠ .vacant := fun h => by
      obtain phase | phase := phase <;> rw [phase] at h <;> cases h
    have effect : ∀ l, State.movement (State.noteMovement (s.linked l)) =
        State.backToArriving (State.noteMovement (s.linked l)) := fun l => by
      have same : (State.noteMovement (s.linked l)).berth.phase = s.berth.phase := rfl
      unfold State.movement
      obtain phase | phase := phase <;> rw [same, phase]
    obtain ⟨l, y, -, done, replied⟩ := accepted.request_up up
      (State.report fun t => t.noteMovement.movement) (x := .done) (d := .empty)
      (fun l => State.backToArriving (State.noteMovement (s.linked l)))
      (fun l => (State.report_taken (s := s.linked l) _ working berthed).trans
        (congrArg (State.answer · .done) (effect l)))
    obtain ⟨c, al, d, e⟩ := State.backToArriving_tells (State.noteMovement (s.linked l))
    have stands : (State.backToArriving (State.noteMovement (s.linked l))).finish.berth =
        (State.backToArriving (State.noteMovement (s.linked l))).berth := by
      refine State.finish_stands ?_
      rw [e]
      show (if _ then _ else _ : Phase).waits = false
      split <;> rfl
    generalize State.backToArriving _ = u at e done stands
    subst e
    refine ⟨_, done, (congrArg BerthState.record stands).trans ?_, congrArg BerthState.phase stands,
      congrArg BerthState.heldOffset stands, congrArg BerthState.pendingStop stands, State.finish_bays _,
      State.finish_doors _, replied⟩
    show s.berth.record.map _ = _
    rw [record]
    rfl
  · have berthed : s.berth.phase ≠ .vacant := by rw [phase]; nofun
    have effect : ∀ l, State.movement (State.noteMovement (s.linked l)) =
        State.setPhase .departing (State.noteMovement (s.linked l)) := fun l => by
      have same : (State.noteMovement (s.linked l)).berth.phase = s.berth.phase := rfl
      unfold State.movement
      rw [same, phase]
    obtain ⟨l, y, -, done, replied⟩ := accepted.request_up up
      (State.report fun t => t.noteMovement.movement) (x := .done) (d := .empty)
      (fun l => State.setPhase .departing (State.noteMovement (s.linked l)))
      (fun l => (State.report_taken (s := s.linked l) _ working berthed).trans
        (congrArg (State.answer · .done) (effect l)))
    obtain ⟨c, d, e⟩ := State.setPhase_parts (State.noteMovement (s.linked l)) .departing
    rw [e] at done
    have stands := State.finish_stands (s := { State.noteMovement (s.linked l) with
      berth := { (State.noteMovement (s.linked l)).berth with phase := .departing, clearFrom := c }
      send := d }) rfl
    exact ⟨_, done, (congrArg BerthState.record stands).trans record, congrArg BerthState.phase stands,
      congrArg BerthState.heldOffset stands, State.finish_bays _, State.finish_doors _, replied⟩

end Sys2Proof.Machine
end

section
/-!
PROOFS. Arrival (R28, R29), departure and retirement (R39 to R41, R104).
-/
namespace Sys2Proof.Machine
open Sys2Proof

/-! ### A change of the beam pattern -/

/-- The state with a change of the pattern noted: what rests on the train standing is gone (R44, R32, R45). -/
def State.patternRead (s : State) (c : Option Millis) (al : AlarmState) (d : SendState) : State :=
  { s with berth := { s.noteMovement.berth with clearFrom := c }, alarms := al, send := d }

/-- What every change of the pattern outside STARTUP does first: what rests on the train standing ends, and
BEAM_INCOHERENT may. -/
theorem State.patternRead_parts (s : State) : ∃ c al d, s.noteMovement.settleIncoherent.countClear =
    s.patternRead c al d ∧ al.entries.length = s.alarms.entries.length := by
  unfold State.settleIncoherent
  split
  · exact ⟨_, _, _, rfl, AlarmState.clear_length _ _⟩
  · exact ⟨_, s.alarms, s.send, rfl, rfl⟩

/-- The state in which beam 0 reads `blocked`. -/
def State.beam0At (s : State) (blocked : Bool) : State :=
  { s with lines := { s.lines with beams := setBeam 0 blocked s.lines.beams } }

theorem State.exec_beam0 {s : State} {blocked : Bool} (powered : s.powered = true)
    (changes : s.lines.beams.getLsbD 0 ≠ blocked) : exec (.beamChange 0 blocked) s =
      .next (State.patternChanged 0 blocked (s.beam0At blocked).begin_).finish := by
  have change : ¬(s.lines.beams.getLsbD 0 = blocked ∨ 16 ≤ 0) := by
    rintro (h | h)
    · exact changes h
    · omega
  refine (if_neg change : execBeamChange 0 blocked s = _).trans ?_
  exact exec_event (s := s.beam0At blocked) _ powered

/-- Outside STARTUP the change then does what the phase asks. -/
theorem State.patternChanged_eq {s : State} (i : Nat) (blocked : Bool) (mode : s.mode ≠ .startup) :
    ∃ c al d count, s.patternChanged i blocked = State.beamPhase i blocked count (s.patternRead c al d) ∧
      al.entries.length = s.alarms.entries.length := by
  obtain ⟨c, al, d, e, length⟩ := s.patternRead_parts
  refine ⟨c, al, d, s.berth.clearFrom.isSome, ?_, length⟩
  have running : s.inStartup = false := decide_eq_false mode
  unfold State.patternChanged
  rw [running, e]
  rfl

/-! ### Arrival (R28, R29) -/

/-- A raise adds one entry at most. -/
theorem AlarmState.raise_length {a : AlarmState} (room : a.entries.length < alarmLimit) (k : AlarmKind)
    (b : Option Nat) (d : Option AlarmDetail) (n : Seconds) :
    (a.raise k b d n).1.entries.length ≤ a.entries.length + 1 := by
  have made : makeRoom a.entries = some a.entries := if_pos room
  unfold AlarmState.raise
  split
  · simp
  · rw [made]
    simp

/-- Leaving VACANT freezes an ACTIVE intrusion, which takes one entry of the list at most. -/
theorem State.leaveVacant_parts (s : State) : ∃ x al d, s.leaveVacant = { s with
      sense := x, alarms := al, send := d } ∧
    (s.alarms.entries.length < 47 → al.entries.length < 48) := by
  unfold State.leaveVacant
  dsimp only
  split
  · refine ⟨_, _, _, rfl, fun room => ?_⟩
    exact Nat.lt_of_le_of_lt (AlarmState.raise_length (Nat.lt_of_lt_of_le room (by decide)) _ _ _ _)
      (Nat.succ_lt_succ room)
  · exact ⟨_, s.alarms, s.send, rfl, fun room => Nat.lt_succ_of_lt room⟩

section
variable {s : State}

/-- The head of the queue is bound. -/
theorem State.arrive_bound (working : s.working = true) {a : Approach} {rest : List Approach}
    (queue : s.berth.queue = a :: rest) : ∃ x c al d, s.arrive = { s with
      sense := x, alarms := al, send := d
      berth := { s.berth with
        queue := rest, record := some (a.berth s.mode), lastBound := some a.seq
        pendingStop := false, phase := .arriving, clearFrom := c } } := by
  obtain ⟨x, al, d, left, -⟩ := s.leaveVacant_parts
  unfold State.arrive
  dsimp only
  rw [left]
  have same : State.working { s with sense := x, alarms := al, send := d } = true := working
  rw [if_pos same]
  dsimp only
  rw [queue]
  dsimp only
  obtain ⟨c, d', e⟩ := State.setPhase_parts (State.sendStatus { s with
    sense := x, alarms := al, send := d
    berth := { s.berth with
      queue := rest, record := some (a.berth s.mode), lastBound := some a.seq, pendingStop := false } }) .arriving
  exact ⟨x, c, al, d', e⟩

/-- An arrival with the queue empty, or out of service, raises UNANNOUNCED_ARRIVAL. -/
theorem State.arrive_unannounced (unbound : s.working = true → s.berth.queue = []) :
    ∃ (x : SenseState) (y : BerthState) (al : AlarmState) (d : SendState) (n : Seconds), s.arrive = { s with
        sense := x, berth := y, alarms := (al.raise .unannouncedArrival none none n).1, send := d } ∧
      (∃ c, y = if s.working then { s.berth with
          record := some .blank, pendingStop := false, phase := .arriving, clearFrom := c }
        else { s.berth with phase := .occupiedUnknown, clearFrom := c }) ∧
      (s.alarms.entries.length < 47 → al.entries.length < 48) := by
  obtain ⟨x, al, d, left, room⟩ := s.leaveVacant_parts
  unfold State.arrive
  dsimp only
  rw [left]
  have same : State.working { s with sense := x, alarms := al, send := d } = s.working := rfl
  rw [same]
  cases working : s.working with
  | true =>
    rw [if_pos rfl]
    dsimp only
    rw [unbound working]
    dsimp only
    obtain ⟨c, d', e⟩ := State.setPhase_parts { s with
      sense := x, alarms := al, send := d
      berth := { s.berth with queue := [], record := some .blank, pendingStop := false } } .arriving
    rw [e]
    exact ⟨x, _, al, _, _, rfl, ⟨c, rfl⟩, room⟩
  | false =>
    rw [if_neg Bool.false_ne_true]
    obtain ⟨c, d', e⟩ := State.setPhase_parts { s with sense := x, alarms := al, send := d } .occupiedUnknown
    rw [e]
    exact ⟨x, _, al, _, _, rfl, ⟨c, rfl⟩, room⟩

end

theorem State.beamPhase_vacant {s : State} (h : s.berth.phase = .vacant) (count : Bool) :
    s.beamPhase 0 true count = s.arrive := by
  unfold State.beamPhase
  rw [h]
  rfl

theorem State.beamPhase_arriving {s : State} (h : s.berth.phase = .arriving) (count : Bool) :
    s.beamPhase 0 false count = s.setPhase .departing := by
  unfold State.beamPhase
  rw [h]
  rfl

/-- Beam 0 blocking in VACANT is an arrival. -/
theorem State.beam0_arrives {s : State} (powered : s.powered = true) (mode : s.mode ≠ .startup)
    (vacant : s.berth.phase = .vacant) (clear : s.lines.beams.getLsbD 0 = false) :
    ∃ c al d, exec (.beamChange 0 true) s = .next ((s.beam0At true).patternRead c al d).arrive.finish ∧
      al.entries.length = s.alarms.entries.length := by
  obtain ⟨c, al, d, count, e, length⟩ := State.patternChanged_eq (s := (s.beam0At true).begin_) 0 true mode
  refine ⟨c, al, d, ?_, length⟩
  rw [State.exec_beam0 powered (by rw [clear]; nofun), e,
    State.beamPhase_vacant (s := (s.beam0At true).begin_.patternRead c al d) vacant]
  rfl

/-- The end of the command after an unannounced arrival. -/
theorem State.finish_unannounced {s : State} {a : AlarmState} {n : Seconds} (room : a.HasRoom)
    (alarms : s.alarms = (a.raise .unannouncedArrival none none n).1) : ∃ e ∈ s.finish.alarms.entries,
      e.kind = .unannouncedArrival ∧ e.bay = none ∧ e.active = false ∧ e.acked = false := by
  obtain ⟨e, among, kind, bay, acked, active, -⟩ := AlarmState.raise_entry room .unannouncedArrival none none n
  rw [← alarms] at among
  exact ⟨e, s.finish_entry among (by rw [kind]; nofun), kind, bay, active, acked⟩

/-- Settles O22: the arrival writes the berth and the watch; both its phases stand. -/
theorem arrivalBindsTheHeadOrIsUnannounced : Obligations.ArrivalBindsTheHeadOrIsUnannounced := by
  unfold Obligations.ArrivalBindsTheHeadOrIsUnannounced
  refine ⟨fun s a rest inv powered vacant mode queue clear => ?_,
    fun s inv powered vacant mode queue clear => ?_, fun s inv powered vacant mode clear => ?_⟩
  · have working : s.working = true := by
      unfold State.working
      obtain mode | mode | mode := mode <;> rw [mode]
    obtain ⟨c, al, d, e, -⟩ := State.beam0_arrives powered (by
      obtain mode | mode | mode := mode <;> rw [mode] <;> nofun) vacant clear
    obtain ⟨x, c', al', d', arrived⟩ := State.arrive_bound (s := (s.beam0At true).patternRead c al d)
      working queue
    generalize State.arrive _ = u at e arrived
    have stands : u.finish.berth = u.berth := State.finish_stands (by rw [arrived]; rfl)
    refine ⟨_, a.berth s.mode, e, ?_⟩
    rw [State.finish_mode, State.finish_lines, State.finish_doors, stands]
    simp only [State.finish_bay]
    rw [arrived]
    exact ⟨rfl, rfl, rfl, rfl, rfl, rfl, rfl, rfl, rfl, rfl, rfl, rfl, rfl, rfl, rfl, rfl, rfl, rfl, rfl,
      fun _ => rfl⟩
  · have working : s.working = true := by
      unfold State.working
      obtain mode | mode | mode := mode <;> rw [mode]
    obtain ⟨c, al, d, e, length⟩ := State.beam0_arrives powered (by
      obtain mode | mode | mode := mode <;> rw [mode] <;> nofun) vacant clear
    obtain ⟨x, y, al', d', n, arrived, ⟨c', made⟩, room⟩ := State.arrive_unannounced (s := (s.beam0At true).patternRead c al d)
      fun _ => queue
    generalize State.arrive _ = u at e arrived
    replace made := made.trans (if_pos working)
    subst made
    have stands : u.finish.berth = u.berth := State.finish_stands (by rw [arrived]; rfl)
    have alarm : s.alarms.entries.length < 47 → ∃ e ∈ u.finish.alarms.entries,
        e.kind = .unannouncedArrival ∧ e.bay = none ∧ e.active = false ∧ e.acked = false := fun few =>
      State.finish_unannounced (.inl (room (by rw [← length] at few; exact few))) (by rw [arrived])
    refine ⟨_, e, ?_⟩
    rw [State.finish_doors, stands]
    simp only [State.finish_bay]
    rw [arrived] at alarm ⊢
    exact ⟨rfl, rfl, rfl, rfl, queue, rfl, alarm, rfl, fun _ => rfl⟩
  · have working : s.working = false := by
      unfold State.working
      obtain mode | mode := mode <;> rw [mode]
    obtain ⟨c, al, d, e, length⟩ := State.beam0_arrives powered (by
      obtain mode | mode := mode <;> rw [mode] <;> nofun) vacant clear
    obtain ⟨x, y, al', d', n, arrived, ⟨c', made⟩, room⟩ := State.arrive_unannounced (s := (s.beam0At true).patternRead c al d)
      fun h => absurd (working.symm.trans h) Bool.false_ne_true
    generalize State.arrive _ = u at e arrived
    replace made := made.trans (if_neg fun h => Bool.false_ne_true (working.symm.trans h))
    subst made
    have stands : u.finish.berth = u.berth := State.finish_stands (by rw [arrived]; rfl)
    have alarm : s.alarms.entries.length < 47 → ∃ e ∈ u.finish.alarms.entries,
        e.kind = .unannouncedArrival ∧ e.bay = none ∧ e.active = false ∧ e.acked = false := fun few =>
      State.finish_unannounced (.inl (room (by rw [← length] at few; exact few))) (by rw [arrived])
    refine ⟨_, e, ?_⟩
    rw [State.finish_mode, State.finish_doors, stands]
    simp only [State.finish_bay]
    rw [arrived] at alarm ⊢
    exact ⟨rfl, rfl, rfl, rfl, rfl, alarm, rfl, fun _ => rfl⟩

/-! ### Retirement (R40, R41, R104) -/

/-- The berth after its retirement: no record, no held offset, its summary in place of the last one. -/
def BerthState.retired (x : BerthState) : BerthState :=
  { x with
    summary := match x.record with
      | some r => some r.summary
      | none => x.summary
    record := none
    heldOffset := none
    pendingStop := false }

theorem BerthState.retired_summary (x : BerthState) : x.retired.summary =
    if x.record.isSome then x.record.map Berth.summary else x.summary := by
  unfold BerthState.retired
  cases x.record <;> rfl

theorem State.resetGap_parts (s : State) (b : Nat) : ∃ bays al d, s.resetGap b = { s with
    bays := bays, alarms := al, send := d } := by
  unfold State.resetGap
  dsimp only
  split
  · exact ⟨_, _, _, rfl⟩
  · exact ⟨_, s.alarms, s.send, rfl⟩

/-- The reset of gap checks changes no berth and no doors. -/
theorem State.resetGaps_parts (s : State) (bs : List Nat) : ∃ bays al d, s.forBays bs State.resetGap = { s with
    bays := bays, alarms := al, send := d } :=
  State.forBays_keeps (P := fun t => ∃ bays al d, t = { s with bays := bays, alarms := al, send := d })
    (fun b _ t ⟨_, _, _, e⟩ => by
      obtain ⟨bays, al, d, reset⟩ := t.resetGap_parts b
      rw [reset, e]
      exact ⟨_, _, _, rfl⟩)
    ⟨s.bays, s.alarms, s.send, rfl⟩

theorem State.resetGap_other {s : State} {b c : Nat} (other : c ≠ b) : (s.resetGap b).bay c = s.bay c := by
  unfold State.resetGap
  dsimp only
  split <;> exact State.bay_setBay_ne _ other

theorem State.resetGap_length (s : State) (b : Nat) : (s.resetGap b).bays.length = s.bays.length :=
  (Stable.length { bay := fun _ => True } s.bays.length id).resetGap trivial rfl

/-- Every bay of the list has its gap check reset and keeps its state. -/
theorem State.resetGaps_bay {s : State} {bs : List Nat} (nodup : bs.Nodup) {b : Nat} (among : b ∈ bs)
    (low : 1 ≤ b) (high : b ≤ s.bays.length) :
    (s.forBays bs State.resetGap).bay b = { s.bay b with gap := .notRequired, gapFrom := none } := by
  obtain ⟨t, length, same, e⟩ := State.forBays_each (P := fun t => t.bays.length = s.bays.length)
    (f := State.resetGap) among nodup (fun c _ t h => (t.resetGap_length c).trans h)
    (fun c _ t d other => State.resetGap_other other) (s := s) rfl
  rw [e, State.resetGap_bay low (by rw [length]; exact high), same]

/-- A retirement followed by VACANT: the berth retired, the gap checks reset. -/
theorem State.retire_enterVacant {s : State} (b : Nat) : ∃ c bays x al d, s.retire.enterVacant = { s with
      berth := { s.berth.retired with phase := .vacant, clearFrom := c }
      bays := bays, sense := x, alarms := al, send := d } ∧
    (b ∈ s.tableBays → 1 ≤ b → b ≤ s.bays.length → (s.retire.enterVacant.bay b).gap = .notRequired ∧
      (s.retire.enterVacant.bay b).state = (s.bay b).state) := by
  obtain ⟨bays, al, d, e⟩ := State.resetGaps_parts (s.clearWhere fun e => e.kind.ofBerth) s.tableBays
  have retired : s.retire = { s with berth := s.berth.retired, bays := bays, alarms := al, send := d } := by
    unfold State.retire
    dsimp only
    rw [show (s.clearWhere fun e => e.kind.ofBerth).tableBays = s.tableBays from rfl, e]
    rfl
  have records : ∀ u : State, u.bays = bays → b ∈ s.tableBays → 1 ≤ b → b ≤ s.bays.length →
      (u.bay b).gap = .notRequired ∧ (u.bay b).state = (s.bay b).state := fun u same among low high => by
    have reset := State.resetGaps_bay (s := s.clearWhere fun e => e.kind.ofBerth) s.tableBays_nodup among low high
    rw [e] at reset
    rw [State.bay_congr (t := u) (s := { s.clearWhere fun e => e.kind.ofBerth with
      bays := bays, alarms := al, send := d }) same, reset]
    exact ⟨rfl, rfl⟩
  obtain ⟨c, d', moved⟩ := State.setPhase_parts
    { s with berth := s.berth.retired, bays := bays, alarms := al, send := d } .vacant
  unfold State.enterVacant
  dsimp only
  rw [retired, moved]
  split
  · exact ⟨c, bays, s.sense, al, d', rfl, records _ rfl⟩
  · refine ⟨c, _, _, al, d', rfl, fun among low high => ?_⟩
    rw [State.startWatch_bay]
    exact records { s with
      berth := { s.berth.retired with phase := .vacant, clearFrom := c }
      bays := bays, alarms := al, send := d' } rfl among low high

/-- Settles O29: the departure moves the phase, the count complete retires the berth. -/
theorem departureRetiresTheBerth : Obligations.DepartureRetiresTheBerth := by
  unfold Obligations.DepartureRetiresTheBerth
  intro s inv powered
  refine ⟨fun arriving blocked mode => ?_, fun p phase due shaped count => ?_⟩
  · obtain ⟨c, al, d, n, e, -⟩ := State.patternChanged_eq (s := (s.beam0At false).begin_) 0 false mode
    rw [State.beamPhase_arriving (s := (s.beam0At false).begin_.patternRead c al d) arriving] at e
    obtain ⟨c', d', moved⟩ := State.setPhase_parts ((s.beam0At false).begin_.patternRead c al d) .departing
    rw [moved] at e
    have done := State.exec_beam0 (blocked := false) powered (by rw [blocked]; nofun)
    have stands : (State.patternChanged 0 false (s.beam0At false).begin_).finish.berth =
        (State.patternChanged 0 false (s.beam0At false).begin_).berth :=
      State.finish_stands (by rw [e]; rfl)
    refine ⟨_, done, ?_⟩
    rw [stands, State.finish_bays, State.finish_doors, e]
    exact ⟨rfl, rfl, rfl, rfl, rfl⟩
  · have effect : s.begin_.clearComplete p = s.begin_.retire.enterVacant := if_pos due
    have done : exec (if p = .departing then .departClear else .occupiedClear) s =
        .next (s.begin_.clearComplete p).finish := by
      obtain phase | phase := phase <;> subst phase <;> exact exec_event _ powered
    rw [effect] at done
    obtain ⟨c, bays, x, al, d, e, -⟩ := State.retire_enterVacant (s := s.begin_) 0
    have stands : s.begin_.retire.enterVacant.finish.berth = s.begin_.retire.enterVacant.berth :=
      State.finish_stands (by rw [e]; rfl)
    refine ⟨_, done, ?_⟩
    rw [stands, State.finish_doors]
    have each : ∀ b, s.inTable b = true → (s.begin_.retire.enterVacant.finish.bay b).gap = .notRequired ∧
        (s.begin_.retire.enterVacant.finish.bay b).state = (s.bay b).state := fun b inTable => by
      obtain ⟨_, _, _, _, _, -, reset⟩ := State.retire_enterVacant (s := s.begin_) b
      have high : b ≤ s.begin_.bays.length := by
        rw [State.begin_bays, shaped]
        exact Nat.le_trans (of_decide_eq_true inTable).2 count
      rw [State.finish_bay]
      exact reset (State.mem_tableBays.2 inTable) (State.inTable_low inTable) high
    have berth := congrArg State.berth e
    exact ⟨congrArg BerthState.phase berth, congrArg BerthState.record berth, congrArg BerthState.heldOffset berth,
      (congrArg BerthState.summary berth).trans (BerthState.retired_summary _),
      (congrArg BerthState.queue berth).trans rfl, (congrArg State.doors e).trans rfl, each⟩

end Sys2Proof.Machine
end

section
/-!
PROOFS. The start of an operation on its targets (R66 to R71, R77): what becomes of the operation record,
the berth and each target, and the requests that start one.
-/
namespace Sys2Proof.Machine
open Sys2Proof

/-! ### The operation record -/

theorem State.reportOperation_parts (s : State) : ∃ d, s.reportOperation = { s with send := d } := by
  unfold State.reportOperation
  split
  · exact ⟨s.send, rfl⟩
  · exact ⟨_, rfl⟩

/-- An abort changes the operation record and tells of it. -/
theorem State.abortOperation_parts (s : State) (w : AbortReason) : ∃ o d, s.abortOperation w = { s with
    doors := { s.doors with operation := o }, send := d } := by
  unfold State.abortOperation
  split
  · exact ⟨s.doors.operation, s.send, rfl⟩
  · obtain ⟨d, e⟩ := State.reportOperation_parts (State.setOperation _ s)
    rw [e]
    exact ⟨_, d, rfl⟩

/-- The record of an operation that has just started. -/
def Operation.started (k : OpKind) (og : Origin) (bs : List Nat) (at_ : Seconds) : Operation :=
  ⟨k, og, bs, .busy, none, [], at_, none⟩

theorem State.busy_of {s : State} {k : OpKind} {og : Origin} {bs : List Nat} {n : Seconds}
    (h : s.doors.operation = some (Operation.started k og bs n)) :
    s.busy = some (Operation.started k og bs n) := by
  unfold State.busy
  rw [h]
  rfl

/-- While an operation is BUSY a phase that opens or closes stands. -/
theorem State.settledPhase_busy {s : State} {o : Operation} (busy : s.busy = some o)
    (phase : s.berth.phase ≠ .closedProving) : s.settledPhase = s.berth.phase := by
  unfold State.settledPhase
  rw [busy]
  split <;> first | rfl | (rename_i h; exact absurd h phase)

/-! ### A target is taken -/

namespace State.Beside
variable {s : State}

theorem takeForOpen (k : OpKind) (b : Nat) : s.Beside (s.takeForOpen k b) := by
  have first : s.Beside (if k = .openOp then s.setBay b fun y => { y with retry := 0 } else s) := by
    split
    · exact .setBay b _
    · exact .refl s
  unfold State.takeForOpen
  dsimp only
  split
  · exact first
  · exact first.trans (.enterState rfl)

theorem startClosing (b : Nat) (c : CloseBy) : s.Beside (s.startClosing b c) := by
  unfold State.startClosing
  split
  · split
    · exact .refl s
    · split
      · exact (State.Beside.enterState rfl).trans (.enterState rfl)
      · exact .enterState rfl
  · exact .enterState rfl

theorem takeForClose (c : CloseBy) (b : Nat) : s.Beside (s.takeForClose c b) := by
  have first := State.Beside.setBay (s := s) b fun y => { y with closeBy := some c }
  unfold State.takeForClose
  dsimp only
  split
  · split
    · exact first.trans (.enterState rfl)
    · exact first
  · exact first.trans (.startClosing b c)

theorem forBays {f : Nat → State → State} (each : ∀ b (t : State), t.Beside (f b t)) (bs : List Nat) :
    s.Beside (s.forBays bs f) :=
  State.forBays_keeps (P := s.Beside) (fun b _ t h => h.trans (each b t)) (.refl s)

theorem now {t : State} (h : s.Beside t) : t.now = s.now := by
  obtain ⟨_, _, _, _, rfl⟩ := h
  rfl

theorem operation {t : State} (h : s.Beside t) : t.doors.operation = s.doors.operation := by
  obtain ⟨_, _, _, _, rfl⟩ := h
  rfl

theorem berth {t : State} (h : s.Beside t) : t.berth = s.berth := by
  obtain ⟨_, _, _, _, rfl⟩ := h
  rfl

/-- How a bay starts closing hangs on its record and the content alone. -/
theorem closingState {t : State} (h : s.Beside t) {b : Nat} (same : t.bay b = s.bay b) (c : CloseBy) :
    t.closingState b c = s.closingState b c := by
  have effective : t.effectivePresence b = s.effectivePresence b := by
    unfold State.effectivePresence
    rw [same]
  obtain ⟨_, _, _, _, rfl⟩ := h
  unfold State.closingState
  rw [effective]
  rfl

end State.Beside

section
variable {s : State} {b : Nat} (h1 : 1 ≤ b) (h2 : b ≤ s.bays.length)
include h1 h2

/-- A bay taken for an OPEN is OPENING with its count at 0. -/
theorem State.takeForOpen_bay (k : OpKind) : ((s.takeForOpen k b).bay b).state = some .opening ∧
    (k = .openOp → ((s.takeForOpen k b).bay b).retry = 0) := by
  have reset : ∀ t, t = (if k = .openOp then s.setBay b fun y => { y with retry := 0 } else s) →
      b ≤ t.bays.length ∧ (t.bay b).state = (s.bay b).state ∧ (k = .openOp → (t.bay b).retry = 0) := by
    rintro t rfl
    split
    · exact ⟨by rw [State.setBay_length]; exact h2, State.bay_setBay_field Bay.state b _ rfl b,
        fun _ => by rw [State.bay_setBay_self _ h1 h2]⟩
    · rename_i other
      exact ⟨h2, rfl, fun h => absurd h other⟩
  obtain ⟨length, state, retry⟩ := reset _ rfl
  unfold State.takeForOpen
  dsimp only
  split
  · rename_i opening
    obtain ⟨st, is, e⟩ := State.bayIs_iff.1 opening
    exact ⟨state.trans (is.trans (congrArg some (beq_iff_eq.1 e))), retry⟩
  · obtain ⟨entered, -, kept⟩ := State.enterState_timed h1 length (st := .opening) rfl rfl
    exact ⟨entered, fun h => kept.trans (retry h)⟩

/-- A bay taken for a close, from a state other than CLOSE_WAIT and REOPENING: its state, its timer from now,
its count. -/
theorem State.takeForClose_bay (c : CloseBy)
    (state : (s.bay b).state = some .opened ∨ (s.bay b).state = some .opening) :
    ((s.takeForClose c b).bay b).state = some (s.closingState b c) ∧
      ((s.takeForClose c b).bay b).timer = some s.now ∧
      ((s.takeForClose c b).bay b).retry = (s.bay b).retry := by
  have starts : s.takeForClose c b = (s.setBay b fun y => { y with closeBy := some c }).startClosing b c := by
    unfold State.takeForClose
    obtain state | state := state <;> rw [state]
  have waiting : (s.setBay b fun y => { y with closeBy := some c }).bayIs b (· == .closeWait) = false := by
    have same : ((s.setBay b fun y => { y with closeBy := some c }).bay b).state = (s.bay b).state :=
      State.bay_setBay_field Bay.state b _ rfl b
    obtain state | state := state <;> rw [State.bayIs_of (same.trans state)] <;> rfl
  obtain ⟨entered, timer, retry⟩ := State.startClosing_bay (s := s.setBay b fun y => { y with closeBy := some c })
    h1 (by rw [State.setBay_length]; exact h2) c waiting
  rw [starts, entered, timer, retry, State.closingState_setBay c rfl rfl]
  exact ⟨rfl, rfl, State.bay_setBay_field Bay.retry b _ rfl b⟩

end

/-! ### Each target of an operation -/

theorem State.takeForOpen_length (s : State) (k : OpKind) (b : Nat) :
    (s.takeForOpen k b).bays.length = s.bays.length :=
  (Stable.length { bay := fun _ => True } s.bays.length id).takeForOpen k (b := b) trivial rfl

theorem State.takeForClose_length (s : State) (c : CloseBy) (b : Nat) :
    (s.takeForClose c b).bays.length = s.bays.length :=
  (Stable.length { bay := fun _ => True } s.bays.length id).takeForClose c (b := b) trivial rfl

theorem State.takeForOpen_other {s : State} {k : OpKind} {b c : Nat} (other : c ≠ b) :
    (s.takeForOpen k b).bay c = s.bay c :=
  ((Stable.onlyBays (· = b) s).takeForOpen k (b := b) rfl (State.OnlyBays.refl _ s)).bays c other

theorem State.takeForClose_other {s : State} {x : CloseBy} {b c : Nat} (other : c ≠ b) :
    (s.takeForClose x b).bay c = s.bay c :=
  ((Stable.onlyBays (· = b) s).takeForClose x (b := b) rfl (State.OnlyBays.refl _ s)).bays c other

section
variable {s : State} {bs : List Nat} (nodup : bs.Nodup) {b : Nat} (among : b ∈ bs) (h1 : 1 ≤ b)
  (h2 : b ≤ s.bays.length)
include nodup among h1 h2

theorem State.forOpen_bay (k : OpKind) : ((s.forBays bs (State.takeForOpen k)).bay b).state = some .opening ∧
    (k = .openOp → ((s.forBays bs (State.takeForOpen k)).bay b).retry = 0) := by
  obtain ⟨t, length, -, e⟩ := State.forBays_each (P := fun t => t.bays.length = s.bays.length)
    (f := State.takeForOpen k) among nodup (fun c _ t h => (t.takeForOpen_length k c).trans h)
    (fun _ _ _ _ other => State.takeForOpen_other other) (s := s) rfl
  rw [e]
  exact State.takeForOpen_bay h1 (by rw [length]; exact h2) k

theorem State.forClose_bay (c : CloseBy)
    (state : (s.bay b).state = some .opened ∨ (s.bay b).state = some .opening) :
    ((s.forBays bs (State.takeForClose c)).bay b).state = some (s.closingState b c) ∧
      ((s.forBays bs (State.takeForClose c)).bay b).timer = some s.now ∧
      ((s.forBays bs (State.takeForClose c)).bay b).retry = (s.bay b).retry := by
  obtain ⟨t, ⟨beside, length⟩, same, e⟩ := State.forBays_each
    (P := fun t => s.Beside t ∧ t.bays.length = s.bays.length) (f := State.takeForClose c) among nodup
    (fun d _ t h => ⟨h.1.trans (.takeForClose c d), (t.takeForClose_length c d).trans h.2⟩)
    (fun _ _ _ _ other => State.takeForClose_other other) (s := s) ⟨.refl s, rfl⟩
  obtain ⟨entered, timer, retry⟩ := State.takeForClose_bay (s := t) h1 (by rw [length]; exact h2) c
    (by rw [same]; exact state)
  rw [e, entered, timer, retry, beside.closingState same, beside.now, same]
  exact ⟨rfl, rfl, rfl⟩

end

/-! ### An operation starts -/

/-- An opening starts: the record of it, the phase, and the bays as its targets leave them. -/
theorem State.startOpen_parts (s : State) (k : OpKind) (og : Origin) (bs : List Nat) :
    (s.startOpen k og bs).doors.operation = some (Operation.started k og bs s.seconds) ∧
      (s.startOpen k og bs).berth.phase = .opening ∧
      ∃ u : State, u.bays = s.bays ∧
        (s.startOpen k og bs).bays = (u.forBays bs (State.takeForOpen k)).bays := by
  obtain ⟨o, d, aborted⟩ := s.abortOperation_parts .superseded
  generalize made : (if k = .evacOpen then
    (State.setOperation (some (Operation.started k og bs s.seconds)) (s.abortOperation .superseded)).cancelDwell else
      State.setOperation (some (Operation.started k og bs s.seconds)) (s.abortOperation .superseded)) = u
  have bays : u.bays = s.bays := by
    rw [← made, aborted]
    split <;> rfl
  have operation : u.doors.operation = some (Operation.started k og bs s.seconds) := by
    rw [← made]
    split <;> rfl
  have whole : s.startOpen k og bs =
      ((u.forBays bs (State.takeForOpen k)).reportOperation).setPhase .opening := by
    rw [← made, aborted]
    unfold State.startOpen
    dsimp only
    rw [aborted]
    rfl
  obtain ⟨d', reported⟩ := (u.forBays bs (State.takeForOpen k)).reportOperation_parts
  rw [reported] at whole
  obtain ⟨c, d'', moved⟩ := State.setPhase_parts { u.forBays bs (State.takeForOpen k) with send := d' } .opening
  rw [whole, moved]
  exact ⟨(State.Beside.operation (.forBays (fun b _ => .takeForOpen k b) bs)).trans operation, rfl, u, bays, rfl⟩

/-- A closing starts: the record of it, the phase as it was, and the bays as its targets leave them. -/
theorem State.startClose_parts (s : State) (k : OpKind) (og : Origin) {bs : List Nat} (some_ : bs ≠ []) :
    (s.startClose k og bs).doors.operation = some (Operation.started k og bs s.seconds) ∧
      (s.startClose k og bs).berth.phase = s.berth.phase ∧
      ∃ u : State, (∃ o r d, u = { s with
          doors := { s.doors with operation := o }, berth := { s.berth with record := r }, send := d }) ∧
        (s.startClose k og bs).bays = (u.forBays bs (State.takeForClose (.operation k))).bays := by
  obtain ⟨o, d, aborted⟩ := s.abortOperation_parts .superseded
  generalize made :
    (State.setOperation (some (Operation.started k og bs s.seconds)) (s.abortOperation .superseded)).cancelDwell = u
  have whole : s.startClose k og bs = (u.forBays bs (State.takeForClose (.operation k))).reportOperation := by
    rw [← made, aborted]
    unfold State.startClose
    rw [List.isEmpty_eq_false_iff.2 some_, aborted]
    rfl
  obtain ⟨d', reported⟩ := (u.forBays bs (State.takeForClose (.operation k))).reportOperation_parts
  have beside : u.Beside (u.forBays bs (State.takeForClose (.operation k))) :=
    .forBays (fun b _ => .takeForClose _ b) bs
  rw [whole, reported]
  rw [aborted] at made
  refine ⟨beside.operation.trans ?_, (congrArg BerthState.phase beside.berth).trans ?_, u, ⟨_, _, _, made.symm⟩, rfl⟩
  · rw [← made]
    rfl
  · rw [← made]
    rfl

section
variable {s : State} {bs : List Nat} (nodup : bs.Nodup) {b : Nat} (among : b ∈ bs) (h1 : 1 ≤ b)
  (h2 : b ≤ s.bays.length)
include nodup among h1 h2

theorem State.startOpen_bay (k : OpKind) (og : Origin) :
    ((s.startOpen k og bs).bay b).state = some .opening ∧
      (k = .openOp → ((s.startOpen k og bs).bay b).retry = 0) := by
  obtain ⟨-, -, u, same, bays⟩ := s.startOpen_parts k og bs
  rw [State.bay_congr bays]
  exact State.forOpen_bay nodup among h1 (by rw [same]; exact h2) k

theorem State.startClose_bay (k : OpKind) (og : Origin)
    (state : (s.bay b).state = some .opened ∨ (s.bay b).state = some .opening) :
    ((s.startClose k og bs).bay b).state = some (s.closingState b (.operation k)) ∧
      ((s.startClose k og bs).bay b).timer = some s.now ∧
      ((s.startClose k og bs).bay b).retry = (s.bay b).retry := by
  obtain ⟨-, -, u, ⟨o, r, d, rfl⟩, bays⟩ := s.startClose_parts k og (List.ne_nil_of_mem among)
  rw [State.bay_congr bays]
  exact State.forClose_bay (s := { s with
    doors := { s.doors with operation := o }, berth := { s.berth with record := r }, send := d })
    nodup among h1 h2 (.operation k) state

end

/-! ### The targets -/

theorem State.servedBays_nodup (s : State) : s.servedBays.Nodup := s.tableBays_nodup.filter _

theorem State.openTargets_nodup (s : State) : s.openTargets.Nodup := s.servedBays_nodup.filter _

theorem State.closeTargets_nodup (s : State) : s.closeTargets.Nodup := s.tableBays_nodup.filter _

theorem State.movementTargets_nodup (s : State) : s.movementTargets.Nodup := s.tableBays_nodup.filter _

theorem State.mem_openTargets {s : State} {b : Nat} (h : b ∈ s.openTargets) : s.inTable b = true :=
  State.mem_tableBays.1 (List.mem_filter.1 (List.mem_filter.1 h).1).1

theorem State.mem_closeTargets {s : State} {b : Nat} (h : b ∈ s.closeTargets) : s.inTable b = true :=
  State.mem_tableBays.1 (List.mem_filter.1 h).1

/-- The table lies within the bay records. -/
theorem State.inTable_high {s : State} (shaped : s.Shaped) (count : s.doors.count ≤ 24) {b : Nat}
    (h : s.inTable b = true) : b ≤ s.bays.length := by
  rw [show s.bays.length = 24 from shaped]
  exact Nat.le_trans (of_decide_eq_true h).2 count

/-! ### A request that opens or closes -/

/-- A request on the doors, of the train with its link UP or of the station, is decided on the state as it
stands, link timers aside. -/
theorem State.Accepts.request_doors {s : State} {r : Req} {k : ReqKind} (h : s.Accepts r k)
    (from_ : s.link.trainUp = true ∨ k.allows .train = false) (owner : State → Answer) :
    ∃ l y, l.supervisor = s.link.supervisor ∧
      (Host.Outcome.next (s.request_ r k owner) : Outcome) =
        .next { (owner (s.linked l)).state.finish with send := y } ∧
      s.replyFrame r k.code (owner (s.linked l)).result (owner (s.linked l)).detail ∈ y.sent := by
  obtain ⟨y, decided, replied⟩ := h.request_eq owner
  have taken : ∃ l : LinkState, l.supervisor = s.link.supervisor ∧ s.taken r.port = s.linked l := by
    obtain up | station := from_
    · by_cases train : r.port = .train
      · rw [train]
        exact ⟨{ s.link with trainLossAt := s.now + s.param .trainLoss, lastTrainFrame := some s.now }, rfl,
          State.taken_train up⟩
      · exact ⟨s.link, rfl, if_neg train⟩
    · exact ⟨s.link, rfl, h.taken_eq station⟩
  obtain ⟨l, supervisor, e⟩ := taken
  rw [e] at decided replied
  exact ⟨l, y, supervisor, congrArg Host.Outcome.next decided, replied⟩

theorem State.openChecked_accepted {s : State} {b : Berth} (og : Origin)
    (phase : s.berth.phase = .aligned ∨ s.berth.phase = .opened ∨ s.berth.phase = .closing ∨
      s.berth.phase = .closedProving ∨ s.berth.phase = .secureBerthed)
    (record : s.berth.record = some b) (permit : b.permit ≠ .notGranted) (some_ : s.openTargets ≠ []) :
    s.openChecked og = (s.startOpen .openOp og s.openTargets).answer .accepted := by
  unfold State.openChecked
  obtain phase | phase | phase | phase | phase := phase <;> simp [phase, record, permit, some_]

theorem State.closeChecked_accepted {s : State} (og : Origin)
    (free : s.closeBusy = false) (some_ : s.closeTargets ≠ []) :
    s.closeChecked og = ((s.startClose .closeOp og s.closeTargets).phaseForClose).answer .accepted := by
  unfold State.closeChecked
  simp [free, some_]

/-- Who may open for the station is a supervisor. -/
theorem State.Accepts.openStation_supervisor {s : State} {r : Req} (h : s.Accepts r .openStation) :
    s.link.supervisor = true := by
  have allowed := h.authority
  unfold State.authorityOf at allowed
  cases supervisor : s.link.supervisor with
  | true => rfl
  | false =>
    rw [supervisor] at allowed
    cases port : r.port <;> rw [port] at allowed <;> cases allowed

/-- Settles O36: the targets enter OPENING, and nothing reaches another bay. -/
theorem openStartsOnTheServedBays : Obligations.OpenStartsOnTheServedBays := by
  unfold Obligations.OpenStartsOnTheServedBays
  intro s r b inv shaped count mode phase record permit some_ i k og which accepted
  have main : ∀ (l : LinkState) (y : SendState), exec i s = .next { (State.startOpen .openOp og s.openTargets
        (s.linked l)).finish with send := y } → s.replyFrame r k.code .accepted .empty ∈ y.sent →
      ∃ t, exec i s = .next t ∧ t.mode = s.mode ∧ t.berth.phase = .opening ∧
        t.doors.operation = some ⟨.openOp, og, s.openTargets, .busy, none, [], s.seconds, none⟩ ∧
        (∀ n ∈ s.openTargets, (t.bay n).state = some .opening ∧ (t.bay n).retry = 0) ∧
        (∀ n, n ∉ s.openTargets → t.bay n = s.bay n) ∧
        t.berth.record.map Berth.identity = s.berth.record.map Berth.identity ∧
        s.Replied t r k .accepted .empty := fun l y done replied => by
    have only : State.OnlyBays (· ∈ s.openTargets) (s.linked l)
        (State.startOpen .openOp og s.openTargets (s.linked l)).finish :=
      ((Stable.onlyBays (· ∈ s.openTargets) (s.linked l)).startOpen .openOp og (fun _ h => h) (.refl _ _)).finish
    obtain ⟨operation, opening, -⟩ := State.startOpen_parts (s.linked l) .openOp og s.openTargets
    have phase := (State.settledPhase_busy (State.busy_of operation) (by rw [opening]; nofun)).trans opening
    have taken : ∀ n ∈ s.openTargets, ((State.startOpen .openOp og s.openTargets (s.linked l)).bay n).state =
        some .opening ∧ ((State.startOpen .openOp og s.openTargets (s.linked l)).bay n).retry = 0 := fun n among => by
      have inTable := State.mem_openTargets among
      obtain ⟨state, retry⟩ := State.startOpen_bay (s := s.linked l) (State.openTargets_nodup s) among
        (State.inTable_low inTable) (State.inTable_high shaped count inTable) .openOp og
      exact ⟨state, retry rfl⟩
    generalize State.startOpen .openOp og s.openTargets (s.linked l) = u at done only operation phase taken
    refine ⟨_, done, congrArg Setting.mode only.setting, (State.finish_phase u).trans phase,
      (congrArg DoorState.operation (State.finish_doors u)).trans operation, fun n among => ?_,
      (only.send y).bays, congrArg BerthRest.identity only.berth, replied⟩
    have final := State.finish_bay u n
    exact ⟨(congrArg Bay.state final).trans (taken n among).1, (congrArg Bay.retry final).trans (taken n among).2⟩
  obtain ⟨rfl, rfl, rfl, up⟩ | ⟨rfl, rfl, rfl⟩ := which
  · obtain ⟨l, y, -, done, replied⟩ := accepted.request_doors (.inl up)
      fun t => t.doorMode (State.openChecked .train)
    rw [State.doorMode_inService (s := s.linked l) _ mode, State.openChecked_accepted (s := s.linked l) .train
      phase record permit some_] at done replied
    exact main l y done replied
  · obtain ⟨l, y, supervisor, done, replied⟩ := accepted.request_doors (.inr rfl)
      fun t => t.doorMode (State.openChecked t.stationOrigin)
    rw [State.doorMode_inService (s := s.linked l) _ mode, State.openChecked_accepted (s := s.linked l) _
      phase record permit some_] at done replied
    have origin : (s.linked l).stationOrigin = .supervisor :=
      if_pos (supervisor.trans accepted.openStation_supervisor)
    rw [origin] at done replied
    exact main l y done replied

/-- A close that starts in OPEN or OPENING makes the phase CLOSING. -/
theorem State.phaseForClose_closing {s : State} (phase : s.berth.phase = .opened ∨ s.berth.phase = .opening) :
    ∃ c d, s.phaseForClose = { s with berth := { s.berth with phase := .closing, clearFrom := c }, send := d } := by
  unfold State.phaseForClose
  rw [if_pos phase]
  exact s.setPhase_parts .closing

theorem State.phaseForClose_bay (s : State) (b : Nat) : s.phaseForClose.bay b = s.bay b :=
  ((Stable.noBay s).phaseForClose (State.OnlyBays.refl _ s)).bays b id

/-- Settles O37: the targets start closing by the rules of CLOSE, and nothing reaches another bay. -/
theorem closeStartsOnTheOpenBays : Obligations.CloseStartsOnTheOpenBays := by
  unfold Obligations.CloseStartsOnTheOpenBays
  intro s r inv shaped count mode phase free some_ i k og which accepted
  have main : ∀ (l : LinkState) (y : SendState), exec i s = .next { (State.startClose .closeOp og s.closeTargets
        (s.linked l)).phaseForClose.finish with send := y } → s.replyFrame r k.code .accepted .empty ∈ y.sent →
      ∃ t, exec i s = .next t ∧ t.mode = s.mode ∧ t.berth.phase = .closing ∧
        t.doors.operation = some ⟨.closeOp, og, s.closeTargets, .busy, none, [], s.seconds, none⟩ ∧
        (∀ n ∈ s.closeTargets, (s.bay n).state = some .opened ∨ (s.bay n).state = some .opening →
          (t.bay n).state = some (if s.effectivePresence n then
            (if s.param .doorwayHold = 0 then .closing .nudge else .closeWait) else .closing .normal) ∧
          (t.bay n).timer = some s.now ∧ (t.bay n).retry = (s.bay n).retry) ∧
        (∀ n, n ∉ s.closeTargets → t.bay n = s.bay n) ∧
        s.Replied t r k .accepted .empty := fun l y done replied => by
    have stable := Stable.onlyBays (· ∈ s.closeTargets) (s.linked l)
    have only : State.OnlyBays (· ∈ s.closeTargets) (s.linked l)
        (State.startClose .closeOp og s.closeTargets (s.linked l)).phaseForClose.finish :=
      (stable.phaseForClose (stable.startClose .closeOp og (fun _ h => h) (.refl _ _))).finish
    obtain ⟨operation, stood, -⟩ := State.startClose_parts (s.linked l) .closeOp og some_
    obtain ⟨c, d, closing⟩ := State.phaseForClose_closing (s := State.startClose .closeOp og s.closeTargets
      (s.linked l)) (by rw [stood]; exact phase)
    have record : (State.startClose .closeOp og s.closeTargets (s.linked l)).phaseForClose.doors.operation =
        some (Operation.started .closeOp og s.closeTargets s.seconds) := by
      rw [closing]
      exact operation
    have moved : (State.startClose .closeOp og s.closeTargets (s.linked l)).phaseForClose.berth.phase =
        .closing := by rw [closing]
    have phase := (State.settledPhase_busy (State.busy_of record) (by rw [moved]; nofun)).trans moved
    have each := State.phaseForClose_bay (State.startClose .closeOp og s.closeTargets (s.linked l))
    generalize (State.startClose .closeOp og s.closeTargets (s.linked l)).phaseForClose = u at done only record phase each
    refine ⟨_, done, congrArg Setting.mode only.setting, (State.finish_phase u).trans phase,
      (congrArg DoorState.operation (State.finish_doors u)).trans record, fun n among state => ?_,
      (only.send y).bays, replied⟩
    have inTable := State.mem_closeTargets among
    have taken := State.startClose_bay (s := s.linked l) (State.closeTargets_nodup s) among
      (State.inTable_low inTable) (State.inTable_high shaped count inTable) .closeOp og state
    rw [← each n, ← State.finish_bay u n] at taken
    exact taken
  obtain ⟨rfl, rfl, rfl, up⟩ | ⟨rfl, rfl, rfl⟩ := which
  · obtain ⟨l, y, -, done, replied⟩ := accepted.request_doors (.inl up)
      fun t => t.doorMode (State.closeChecked .train)
    rw [State.doorMode_inService (s := s.linked l) _ mode, State.closeChecked_accepted (s := s.linked l) .train
      free some_] at done replied
    exact main l y done replied
  · obtain ⟨l, y, supervisor, done, replied⟩ := accepted.request_doors (.inr rfl)
      fun t => t.doorMode (State.closeChecked t.stationOrigin)
    rw [State.doorMode_inService (s := s.linked l) _ mode, State.closeChecked_accepted (s := s.linked l) _
      free some_] at done replied
    have origin : (s.linked l).stationOrigin = s.stationOrigin := by
      unfold State.stationOrigin
      rw [show (s.linked l).link.supervisor = s.link.supervisor from supervisor]
    rw [origin] at done replied
    exact main l y done replied

/-! ### MOVEMENT_CLOSE (R77) -/

/-- The state in which an unexpected movement starts its close: the alarm raised, the operation aborted, the
dwell timer stopped. -/
def State.movementNoted (s : State) : State :=
  ((s.raise .unexpectedMovement none none).abortOperation .movement).stopDwell

/-- It differs from `s` in the operation, the dwell timer, the alarms and what is sent. -/
theorem State.movementNoted_parts (s : State) : ∃ o r al d, s.movementNoted = { s with
    doors := { s.doors with operation := o }, berth := { s.berth with record := r }, alarms := al, send := d } := by
  obtain ⟨o, d, aborted⟩ := (s.raise .unexpectedMovement none none).abortOperation_parts .movement
  unfold State.movementNoted
  rw [aborted]
  exact ⟨o, _, _, d, rfl⟩

theorem State.unexpectedMovement_eq (s : State) : s.unexpectedMovement =
    (s.movementNoted.startClose .movementClose .part s.movementTargets).backToArriving := by
  have targets : s.movementNoted.movementTargets = s.movementTargets := by
    obtain ⟨o, r, al, d, e⟩ := s.movementNoted_parts
    rw [e]
    rfl
  rw [← targets]
  rfl

theorem State.mem_movementTargets {s : State} {b : Nat} : b ∈ s.movementTargets ↔
    s.inTable b = true ∧ s.bayIs b BayState.isMovementTarget = true := by
  unfold State.movementTargets
  rw [List.mem_filter, State.mem_tableBays]

/-- An unexpected movement with a bay to close: the close, the phase, and what becomes of an OPEN bay. -/
theorem State.unexpectedMovement_parts {s : State} (some_ : s.movementTargets ≠ []) :
    s.unexpectedMovement.doors.operation =
        some (Operation.started .movementClose .part s.movementTargets s.seconds) ∧
      s.unexpectedMovement.berth.phase = (if s.beam0 then .arriving else .departing) ∧
      (∀ c, c ∉ s.movementTargets → s.unexpectedMovement.bay c = s.bay c) ∧
      ∀ b ∈ s.movementTargets, 1 ≤ b → b ≤ s.bays.length → (s.bay b).state = some .opened →
        (s.unexpectedMovement.bay b).state = some (.closing .nudge) ∧
          (s.unexpectedMovement.bay b).timer = some s.now := by
  obtain ⟨o, r, al, d, noted⟩ := s.movementNoted_parts
  have records : s.movementNoted.bays = s.bays := by rw [noted]
  have clock : s.movementNoted.now = s.now := by rw [noted]
  have seconds : s.movementNoted.seconds = s.seconds := by rw [noted]; rfl
  have beam : s.movementNoted.beam0 = s.beam0 := by rw [noted]; rfl
  have only := (Stable.onlyBays (· ∈ s.movementTargets) s.movementNoted).startClose .movementClose .part
    (fun _ h => h) (State.OnlyBays.refl _ _)
  obtain ⟨operation, -, -⟩ := State.startClose_parts s.movementNoted .movementClose .part some_
  have taken : ∀ b ∈ s.movementTargets, 1 ≤ b → b ≤ s.bays.length → (s.bay b).state = some .opened →
      ((s.movementNoted.startClose .movementClose .part s.movementTargets).bay b).state = some (.closing .nudge) ∧
        ((s.movementNoted.startClose .movementClose .part s.movementTargets).bay b).timer = some s.now :=
    fun b among low high state => by
      obtain ⟨entered, timer, -⟩ := State.startClose_bay (s := s.movementNoted) s.movementTargets_nodup among low
        (by rw [records]; exact high) .movementClose .part (.inl (by rw [State.bay_congr records]; exact state))
      exact ⟨entered, timer.trans (congrArg some clock)⟩
  rw [State.unexpectedMovement_eq]
  generalize s.movementNoted.startClose .movementClose .part s.movementTargets = u at only operation taken
  obtain ⟨c, al', d', back⟩ := u.backToArriving_tells
  have stood : u.beam0 = s.beam0 := (congrArg (fun x : Setting => x.lines.beams.getLsbD 0) only.setting).trans beam
  rw [seconds] at operation
  rw [back, ← stood]
  exact ⟨operation, rfl, fun c other => (only.bays c other).trans (State.bay_congr records c), taken⟩

/-- Settles O28: the OPEN bay is among the targets, and the movement takes the phase back. -/
theorem movingWithDoorsOpenClosesThem : Obligations.MovingWithDoorsOpenClosesThem := by
  unfold Obligations.MovingWithDoorsOpenClosesThem
  intro s r b inv shaped accepted up working phase inTable high state
  have berthed : s.berth.phase ≠ .vacant := fun h => by
    obtain phase | phase | phase := phase <;> rw [phase] at h <;> cases h
  have among : b ∈ s.movementTargets := State.mem_movementTargets.2 ⟨inTable, by rw [State.bayIs_of state]; rfl⟩
  have effect : ∀ l, State.movement (State.noteMovement (s.linked l)) =
      State.unexpectedMovement (State.noteMovement (s.linked l)) := fun l => by
    have same : (State.noteMovement (s.linked l)).berth.phase = s.berth.phase := rfl
    unfold State.movement
    obtain phase | phase | phase := phase <;> rw [same, phase]
  obtain ⟨l, y, -, done, replied⟩ := accepted.request_up up
    (State.report fun t => t.noteMovement.movement) (x := .done) (d := .empty)
    (fun l => State.unexpectedMovement (State.noteMovement (s.linked l)))
    (fun l => (State.report_taken (s := s.linked l) _ working berthed).trans
      (congrArg (State.answer · .done) (effect l)))
  obtain ⟨operation, moved, other, taken⟩ := State.unexpectedMovement_parts (s := State.noteMovement (s.linked l))
    (List.ne_nil_of_mem among)
  obtain ⟨closing, timer⟩ := taken b among (State.inTable_low inTable)
    (by rw [show (State.noteMovement (s.linked l)).bays.length = 24 from shaped]; exact high) state
  generalize State.unexpectedMovement (State.noteMovement (s.linked l)) = u at done operation moved other closing timer
  have stands : u.settledPhase = u.berth.phase := State.settledPhase_stands (by
    rw [moved]
    split <;> rfl)
  have final : ∀ n, ({ u.finish with send := y } : State).bay n = u.bay n := State.finish_bay u
  exact ⟨_, done, (congrArg DoorState.operation (State.finish_doors u)).trans operation,
    (congrArg Bay.state (final b)).trans closing, (congrArg Bay.timer (final b)).trans timer,
    fun c h => (final c).trans (other c h), ((State.finish_phase u).trans stands).trans moved, replied⟩

end Sys2Proof.Machine
end

section
/-!
PROOFS. The loss of the Train Link, the notice intervals, the outbox and the message numbers (R139, R140, R157,
R160, R161), and the evacuation line (R119, R123 to R127).
-/
namespace Sys2Proof.Machine
open Sys2Proof

/-! ### What the start of an operation leaves of the alarms -/

theorem State.abortOperation_alarms (s : State) (w : AbortReason) : (s.abortOperation w).alarms = s.alarms := by
  obtain ⟨o, d, e⟩ := s.abortOperation_parts w
  rw [e]

section
variable {s : State} {k : AlarmKind} (c : Option Nat) (stays : ∀ st : BayState, st.isQuiet = true → st.spares k = true)
include stays

theorem State.takeForOpen_isActive (x : OpKind) (b : Nat) :
    (s.takeForOpen x b).alarms.isActive k c = s.alarms.isActive k c := by
  unfold State.takeForOpen
  dsimp only
  split <;> split
  · rfl
  · rfl
  · exact State.enterState_isActive c (stays .opening rfl)
  · exact State.enterState_isActive c (stays .opening rfl)

theorem State.startClosing_isActive (b : Nat) (x : CloseBy) :
    (s.startClosing b x).alarms.isActive k c = s.alarms.isActive k c := by
  unfold State.startClosing
  split
  · split
    · rfl
    · split
      · exact (State.enterState_isActive c (stays (.closing .nudge) rfl)).trans
          (State.enterState_isActive c (stays .closeWait rfl))
      · exact State.enterState_isActive c (stays .closeWait rfl)
  · exact State.enterState_isActive c (stays _ rfl)

theorem State.takeForClose_isActive (x : CloseBy) (b : Nat) :
    (s.takeForClose x b).alarms.isActive k c = s.alarms.isActive k c := by
  unfold State.takeForClose
  dsimp only
  split
  · split
    · exact State.enterState_isActive c (stays _ rfl)
    · rfl
  · exact State.startClosing_isActive c stays b x

theorem State.startOpen_isActive (x : OpKind) (og : Origin) (bs : List Nat) :
    (s.startOpen x og bs).alarms.isActive k c = s.alarms.isActive k c := by
  unfold State.startOpen
  dsimp only
  rw [State.setPhase_alarms, State.reportOperation_alarms]
  refine State.forBays_keeps (P := fun t => t.alarms.isActive k c = s.alarms.isActive k c)
    (fun b _ t h => (State.takeForOpen_isActive c stays x b).trans h) ?_
  have aborted := congrArg (AlarmState.isActive · k c) (s.abortOperation_alarms .superseded)
  split <;> exact aborted

theorem State.startClose_isActive (x : OpKind) (og : Origin) (bs : List Nat) :
    (s.startClose x og bs).alarms.isActive k c = s.alarms.isActive k c := by
  unfold State.startClose
  split
  · rfl
  · dsimp only
    rw [State.reportOperation_alarms]
    exact State.forBays_keeps (P := fun t => t.alarms.isActive k c = s.alarms.isActive k c)
      (fun b _ t h => (State.takeForClose_isActive c stays _ b).trans h)
      (congrArg (AlarmState.isActive · k c) (s.abortOperation_alarms .superseded))

end

/-- TRAIN_LINK_LOST and EVACUATION end with no change of a bay's state. -/
theorem BayState.spares_of {k : AlarmKind} (h : k = .trainLinkLost ∨ k = .evacuation) (st : BayState) :
    st.spares k = true := by
  obtain rfl | rfl := h <;> rfl

/-! ### The loss of the Train Link (R139, R140) -/

/-- The state in which the Train Link has gone DOWN, its pending notices discarded. -/
def State.trainDown (s : State) : State :=
  { s with
    link := { s.link with trainUp := false }
    send := s.send.setPort .train fun p => { p with folds := .idle } }

/-- With the Train Link DOWN its intervals stand through everything that only makes notices. -/
theorem Stable.trainQuiet : Stable { bay := fun _ => True, secure := True }
    fun s => s.link.trainUp = false ∧ s.send.train.folds = .idle where
  send _ step h := ⟨h.1, (step.quiet h.1).2.trans h.2⟩
  bay _ _ _ h := h
  bays _ _ _ h := h
  record _ _ h := h
  phase _ _ h := h
  berth _ h := h.elim
  queue _ h := h.elim
  operation _ h := h
  removal _ h := h
  doors _ h := h.elim
  alarm _ _ _ h := h
  cleared _ h := h
  sense _ h := h.elim
  emer _ h := h.elim
  mode _ h := h.elim
  link _ h := h.elim
  bus _ h := h.elim
  secure _ _ h := h
  store _ h := h.elim
  startup _ h := h.elim

/-- The link is read by no judgement. -/
theorem State.Settled.of_link {s : State} (h : s.Settled) (x : LinkState) (d : SendState) :
    State.Settled { s with link := x, send := d } :=
  h.of_parts ⟨.inl rfl, rfl, rfl, fun _ => rfl, rfl, rfl, rfl⟩ rfl rfl rfl rfl rfl

/-- A close that starts with the doorways of a train open leaves the phase CLOSING. -/
theorem State.phaseForClose_doors {s : State}
    (phase : s.berth.phase = .opening ∨ s.berth.phase = .opened ∨ s.berth.phase = .closing) :
    ∃ c d, s.phaseForClose = { s with berth := { s.berth with phase := .closing, clearFrom := c }, send := d } := by
  obtain phase | phase | phase := phase
  · exact State.phaseForClose_closing (.inr phase)
  · exact State.phaseForClose_closing (.inl phase)
  · refine ⟨s.berth.clearFrom, s.send, ?_⟩
    unfold State.phaseForClose
    rw [if_neg (by rw [phase]; nofun), ← phase]

/-- The loss of a train with its doorways open, with no close BUSY: the alarm, and LINKLOSS_CLOSE. -/
theorem State.trainLost_closes {s : State} (concerns : s.lossConcerns = true)
    (mode : s.mode = .normal ∨ s.mode = .localMode) (free : s.closeBusy = false) (some_ : s.linklossTargets ≠ []) :
    s.trainLost = ((s.raise .trainLinkLost none none).startClose .linklossClose .part
      s.linklossTargets).phaseForClose := by
  have normal : decide ((s.raise .trainLinkLost none none).mode = .emergency) = false :=
    decide_eq_false (by obtain mode | mode := mode <;> (intro h; cases mode.symm.trans h))
  have idle : (s.raise .trainLinkLost none none).closeBusy = false := free
  unfold State.trainLost
  rw [concerns]
  dsimp only
  rw [normal, idle]
  unfold State.linklossClose
  exact if_neg (Bool.not_eq_true _ ▸ List.isEmpty_eq_false_iff.2 some_)

theorem State.trainLossExpiry_due {s : State} (due : s.trainLossDue = true) :
    s.trainLossExpiry = s.trainDown.trainLost := if_pos due

/-- A loss that concerns no train with its doorways open changes the link alone. -/
theorem State.Inv.trainLoss_idle {s : State} (inv : s.Inv) (powered : s.powered = true)
    (due : s.trainLossDue = true) (apart : s.lossConcerns = false) :
    ∃ x, exec .trainLossExpiry s = .next { s with link := { s.link with trainUp := false }, send := x } ∧
      x.train.folds = .idle := by
  have effect : s.begin_.trainLossExpiry = s.begin_.trainDown := by
    rw [State.trainLossExpiry_due (s := s.begin_) due]
    exact if_neg (by rw [show s.begin_.trainDown.lossConcerns = s.lossConcerns from rfl, apart]; nofun)
  refine ⟨s.begin_.trainDown.send, congrArg Host.Outcome.next ((State.event_of_settled powered ?_).trans effect), rfl⟩
  rw [effect]
  exact (inv.settled_begin powered).of_link _ _

/-- A loss with the doorways of a train open closes the bays of disposition CLOSE. -/
theorem State.trainLoss_closes {s : State} (powered : s.powered = true) (due : s.trainLossDue = true)
    (concerns : s.lossConcerns = true) (mode : s.mode = .normal ∨ s.mode = .localMode)
    (free : s.closeBusy = false) (some_ : s.linklossTargets ≠ []) :
    ∃ t, exec .trainLossExpiry s = .next t ∧ t.link = { s.link with trainUp := false } ∧
      t.mode = s.mode ∧ t.berth.phase = .closing ∧ t.send.train.folds = .idle ∧
      t.doors.operation = some (Operation.started .linklossClose .part s.linklossTargets s.seconds) ∧
      (∀ b, b ∉ s.linklossTargets → t.bay b = s.bay b) ∧
      (s.alarms.entries.length < 48 → t.hasActive .trainLinkLost none = true) := by
  have effect : s.begin_.trainLossExpiry = ((s.begin_.trainDown.raise .trainLinkLost none none).startClose
      .linklossClose .part s.linklossTargets).phaseForClose := (State.trainLossExpiry_due (s := s.begin_) due).trans
    (State.trainLost_closes (s := s.begin_.trainDown) concerns mode free some_)
  have phase : s.berth.phase = .opening ∨ s.berth.phase = .opened ∨ s.berth.phase = .closing :=
    of_decide_eq_true ((Bool.and_eq_true _ _ ▸ concerns :) : _ ∧ _).1
  obtain ⟨operation, stood, -⟩ := State.startClose_parts (s.begin_.trainDown.raise .trainLinkLost none none)
    .linklossClose .part some_
  obtain ⟨c, d, closing⟩ := State.phaseForClose_doors (s := (s.begin_.trainDown.raise .trainLinkLost none
    none).startClose .linklossClose .part s.linklossTargets) (by rw [stood]; exact phase)
  have only : State.OnlyBays (· ∈ s.linklossTargets) s.begin_.trainDown s.begin_.trainLossExpiry := by
    have stable := Stable.onlyBays (· ∈ s.linklossTargets) s.begin_.trainDown
    rw [effect]
    exact stable.phaseForClose (stable.startClose .linklossClose .part (fun _ h => h)
      (stable.raise .trainLinkLost none none (.refl _ _)))
  have quiet : s.begin_.trainLossExpiry.finish.link.trainUp = false ∧
      s.begin_.trainLossExpiry.finish.send.train.folds = .idle := by
    rw [effect]
    exact Stable.trainQuiet.finish trivial (Stable.trainQuiet.phaseForClose (Stable.trainQuiet.startClose _ _
      (fun _ _ => trivial) (Stable.trainQuiet.raise .trainLinkLost none none
        (s := s.begin_.trainDown) ⟨rfl, rfl⟩)))
  have record : s.begin_.trainLossExpiry.doors.operation =
      some (Operation.started .linklossClose .part s.linklossTargets s.seconds) := by
    rw [effect, closing]
    exact operation
  have moved : s.begin_.trainLossExpiry.berth.phase = .closing := by rw [effect, closing]
  have settled := (State.settledPhase_busy (State.busy_of record) (by rw [moved]; nofun)).trans moved
  have active : s.alarms.entries.length < 48 →
      s.begin_.trainLossExpiry.alarms.isActive .trainLinkLost none = true := fun room => by
    rw [effect, closing]
    refine (State.startClose_isActive none (fun st _ => BayState.spares_of (.inl rfl) st) _ _ _).trans ?_
    exact AlarmState.raise_active (a := s.alarms) (.inl room) none none _ rfl
  refine ⟨_, exec_event _ powered, ?_⟩
  generalize s.begin_.trainLossExpiry = u at only quiet record settled active
  exact ⟨congrArg Setting.link only.finish.setting, congrArg Setting.mode only.finish.setting,
    (State.finish_phase u).trans settled, quiet.2, (congrArg DoorState.operation (State.finish_doors u)).trans record,
    only.finish.bays, fun room => (State.finish_hasActive u (k := .trainLinkLost) none nofun).trans (active room)⟩

/-! ### The end of a notice interval (R160) -/

/-- A class that has an interval keeps what is written of it. -/
theorem Folds.get_set {f : Folds} {c : NoticeClass} {x : Fold} (folded : f.get c = some x) (y : Fold) :
    (f.set c y).get c = some y := by
  cases c <;> first | rfl | cases folded

theorem State.intervalOver_eq {s : State} {p : Port} {c : NoticeClass} {f : Fold}
    (h : s.intervalOver p c = some f) : (s.send.port p).folds.get c = some f := by
  unfold State.intervalOver at h
  cases fold : (s.send.port p).folds.get c with
  | none =>
    rw [fold] at h
    cases h
  | some g =>
    rw [fold] at h
    dsimp only at h
    split at h
    · exact h
    · cases h

section
variable {e : SendEnv} {p : Port} {c : NoticeClass} {f : Fold} {fresh : NoticeDetail → NoticeDetail} {d : SendState}

theorem SendState.emit_folds (n : Notice) : ((d.emit p n).port p).folds = (d.port p).folds := by
  cases p
  · rfl
  · rfl
  · unfold SendState.emit SendState.queueNotice
    dsimp only
    split <;> rfl

/-- The interval restarts after a pending notice, and is idle after none. -/
theorem SendState.intervalEnd_get (folded : (d.port p).folds.get c = some f) :
    ((d.intervalEnd e p c f fresh).port p).folds.get c =
      some (if f.latest.isSome then ⟨some (e.now + e.interval), none, 0⟩ else .idle) := by
  unfold SendState.intervalEnd
  cases f.latest with
  | none =>
    rw [SendState.port_setPort, if_pos rfl]
    exact Folds.get_set folded _
  | some x =>
    rw [SendState.port_setPort, if_pos rfl]
    exact Folds.get_set (by rw [SendState.emit_folds]; exact folded) _

theorem SendState.setPort_sent (g : PortState → PortState) : (d.setPort p g).sent = d.sent := by cases p <;> rfl

theorem SendState.setPort_outbox (g : PortState → PortState) : (d.setPort p g).outbox = d.outbox := by
  cases p <;> rfl

/-- A notice is in the outbox of the station, or among the frames of the other ports. -/
theorem SendState.emit_carries (n : Notice) : if p = .station then n ∈ (d.emit p n).outbox else
    ∃ g ∈ (d.emit p n).sent, g.port = p ∧ g.body = .notice n 0 := by
  cases p
  · exact ⟨_, List.mem_append_right _ (List.mem_singleton.2 rfl), rfl, rfl⟩
  · exact ⟨_, List.mem_append_right _ (List.mem_singleton.2 rfl), rfl, rfl⟩
  · exact SendState.mem_queueNotice n

theorem SendState.intervalEnd_carries {x : NoticeDetail} (latest : f.latest = some x) :
    if p = .station then ⟨c, f.count, fresh x⟩ ∈ (d.intervalEnd e p c f fresh).outbox else
      ∃ g ∈ (d.intervalEnd e p c f fresh).sent, g.port = p ∧ g.body = .notice ⟨c, f.count, fresh x⟩ 0 := by
  unfold SendState.intervalEnd
  rw [latest]
  dsimp only
  rw [SendState.setPort_sent, SendState.setPort_outbox]
  exact SendState.emit_carries _

end

/-! ### The outbox and the message numbers (R151, R157, R161) -/

theorem SendState.queueNotice_room {d : SendState} (n : Notice) (room : d.outbox.length < 16) :
    d.queueNotice n = { d with outbox := d.outbox ++ [n] } := if_pos room

theorem SendState.queueNotice_full {d : SendState} (n : Notice) (full : d.outbox.length = 16) :
    d.queueNotice n = { d with outbox := d.outbox.tail ++ [n], lost := min 255 (d.lost + 1) } := by
  rw [← List.drop_one]
  exact if_neg (by rw [full]; exact Nat.lt_irrefl 16)

theorem SendState.turn_outbox (a : Nat) (n : Nat) (d : SendState) : (d.turn a n).outbox = d.outbox.drop n := by
  induction n generalizing d with
  | zero => rfl
  | succ n ih =>
    unfold SendState.turn
    cases queued : d.outbox with
    | nil => exact queued
    | cons x rest => exact ih _

theorem SendState.turn_lost (a : Nat) (n : Nat) (d : SendState) :
    (d.turn a (n + 1)).lost = if d.outbox = [] then d.lost else 0 := by
  induction n generalizing d with
  | zero =>
    unfold SendState.turn
    cases d.outbox <;> rfl
  | succ n ih =>
    unfold SendState.turn
    cases queued : d.outbox with
    | nil => rfl
    | cons x rest =>
      refine (ih _).trans ?_
      rw [if_neg (List.cons_ne_nil x rest)]
      exact ite_self 0

/-- A turn takes the notices at the head of the outbox, the first with the lost count. -/
theorem SendState.turn_bodies (a : Nat) (n : Nat) (d : SendState) : (d.turn a n).sent.map (·.body) =
    d.sent.map (·.body) ++ (d.outbox.take n).zipWith Body.notice (d.lost :: List.replicate (n - 1) 0) := by
  induction n generalizing d with
  | zero => simp [SendState.turn]
  | succ n ih =>
    unfold SendState.turn
    cases queued : d.outbox with
    | nil => simp
    | cons x rest =>
      refine (ih _).trans ?_
      show (d.sent ++ [_]).map _ ++ (rest.take n).zipWith Body.notice (0 :: List.replicate (n - 1) 0) = _
      cases n with
      | zero => simp
      | succ n => simp [List.replicate_succ]

theorem SendState.unsolicited_number (d : SendState) (p : Port) (a k : Nat) (b : Body) :
    (d.unsolicited p a k b).sent = d.sent ++ [⟨p, a, k, (d.port p).number, b⟩] ∧
      ((d.unsolicited p a k b).port p).number = ((d.port p).number + 1) % 256 := by
  unfold SendState.unsolicited
  rw [SendState.setPort_sent, SendState.port_setPort, if_pos rfl]
  exact ⟨rfl, by cases p <;> rfl⟩

/-- Settles O53: the loss with and without open doorways, the interval, and the three facts about sending. -/
theorem trainLossNoticesAndTheOutbox : Obligations.TrainLossNoticesAndTheOutbox := by
  unfold Obligations.TrainLossNoticesAndTheOutbox
  refine ⟨fun s inv shaped count powered => ⟨fun due apart => inv.trainLoss_idle powered due apart,
    fun due concerns mode free some_ => State.trainLoss_closes powered due concerns mode free some_,
    fun p c f ended => ?_⟩, fun d n => ⟨fun room => ?_, fun full => ?_⟩,
    fun d a => ⟨SendState.turn_outbox a 4 d, SendState.turn_lost a 3 d, SendState.turn_bodies a 4 d⟩,
    fun d p a k b => SendState.unsolicited_number d p a k b⟩
  · have folded := State.intervalOver_eq ended
    have begun : s.begin_.intervalOver p c = some f := by
      unfold State.intervalOver
      cases p <;> exact ended
    have port : s.begin_.send.port p = s.send.port p := by cases p <;> rfl
    have effect : s.begin_.noticeIntervalEnd p c = { s.begin_ with
        send := s.begin_.send.intervalEnd s.env p c f (fun x => s.refresh x) } := by
      unfold State.noticeIntervalEnd
      rw [begun]
      rfl
    refine ⟨_, congrArg Host.Outcome.next ((State.event_of_settled powered ?_).trans effect), ?_, fun y latest => ?_⟩
    · rw [effect]
      exact (inv.settled_begin powered).of_link s.link _
    · exact SendState.intervalEnd_get (by rw [port]; exact folded)
    · exact SendState.intervalEnd_carries latest
  · rw [SendState.queueNotice_room n room]
    exact ⟨rfl, rfl⟩
  · rw [SendState.queueNotice_full n full]
    exact ⟨rfl, rfl⟩

/-! ### The evacuation line (R119, R123 to R127) -/

/-- EVACUATION has joined the cause set, with its alarm. -/
def State.evacJoined (s : State) (d : SendState) : State :=
  { s with
    emer := { s.emer with evacuation := true }
    alarms := (s.alarms.raise .evacuation none none s.seconds).1
    send := d }

theorem State.joinEvacuation_eq (s : State) : ∃ d, s.joinEvacuation.evacuationNotice = s.evacJoined d := by
  unfold State.joinEvacuation
  obtain ⟨d, e⟩ := State.flagStatus_send (State.raise .evacuation none none
    { s with emer := { s.emer with evacuation := true } }) s.noCause
  rw [e]
  exact ⟨_, rfl⟩

/-- EVAC_OPEN where mode and phase allow (R123). -/
def State.evacOpenAllowed (s : State) : State :=
  if s.mode = .emergency ∧ s.berth.phase.evacOpens then s.evacOpen else s

theorem State.evacuate_steps (s : State) : ∃ d, s.evacuate =
    (if s.noCause then (s.evacJoined d).enterEmergency else s.evacJoined d).evacOpenAllowed := by
  obtain ⟨d, joined⟩ := s.joinEvacuation_eq
  refine ⟨d, ?_⟩
  unfold State.evacuate
  dsimp only
  rw [joined]
  rfl

/-- The context an evacuation leaves saved: the one that stands in EMERGENCY, the state's own otherwise. -/
def State.evacuationContext (s : State) : Option Context :=
  if s.mode = .emergency then s.emer.context else some s.suspend

/-- The modes that an evacuation leads to EMERGENCY. -/
def State.evacuates (s : State) : Prop :=
  (s.mode = .normal ∨ s.mode = .localMode ∨ s.mode = .commissioning) ∧ s.noCause = true ∨ s.mode = .emergency

/-- The entry of EMERGENCY: the context, the mode and the aborted operation. -/
theorem State.enterEmergency_parts {s : State}
    (mode : s.mode = .normal ∨ s.mode = .localMode ∨ s.mode = .commissioning) :
    ∃ o d, s.enterEmergency = { s with
      mode := .emergency, emer := { s.emer with context := some s.suspend }
      doors := { s.doors with operation := o }, send := d } := by
  have moved : ∃ d, State.setMode .emergency { s with emer := { s.emer with context := some s.suspend } } = { s with
      mode := .emergency, emer := { s.emer with context := some s.suspend }, send := d } := by
    unfold State.setMode
    rw [if_neg (by obtain mode | mode | mode := mode <;> (intro h; cases mode.symm.trans h))]
    exact ⟨_, rfl⟩
  obtain ⟨d, moved⟩ := moved
  have entered : s.enterEmergency = (State.notice (.emergency .entered s.causes .emergency) { s with
      mode := .emergency, emer := { s.emer with context := some s.suspend }, send := d }).abortOperation
        .emergency := by
    unfold State.enterEmergency
    dsimp only
    rw [moved]
    obtain mode | mode | mode := mode <;> rw [mode] <;> rfl
  obtain ⟨o, d', aborted⟩ := State.abortOperation_parts (State.notice (.emergency .entered s.causes .emergency)
    { s with mode := .emergency, emer := { s.emer with context := some s.suspend }, send := d }) .emergency
  exact ⟨o, d', entered.trans aborted⟩

/-- In the other modes no EMERGENCY is entered. -/
theorem State.enterEmergency_out {s : State} (mode : s.mode = .startup ∨ s.mode = .configFault ∨ s.mode = .emergency) :
    s.enterEmergency = s := by
  unfold State.enterEmergency
  obtain mode | mode | mode := mode <;> rw [mode]

/-- Where an evacuation leads to EMERGENCY, it opens in the phases that open and changes no bay otherwise. -/
theorem State.evacuate_eq {s : State} (evacuates : s.evacuates) : ∃ (u : State),
    (∃ o d, u = { s with
      mode := .emergency, emer := ⟨true, s.emer.released, s.evacuationContext⟩
      doors := { s.doors with operation := o }
      alarms := (s.alarms.raise .evacuation none none s.seconds).1, send := d }) ∧
    s.evacuate = if s.berth.phase.evacOpens then u.evacOpen else u := by
  obtain ⟨d, steps⟩ := s.evacuate_steps
  have reached : ∃ o d', (if s.noCause then (s.evacJoined d).enterEmergency else s.evacJoined d) = { s with
      mode := .emergency, emer := ⟨true, s.emer.released, s.evacuationContext⟩
      doors := { s.doors with operation := o }
      alarms := (s.alarms.raise .evacuation none none s.seconds).1, send := d' } := by
    unfold State.evacuationContext
    obtain ⟨mode, first⟩ | mode := evacuates
    · obtain ⟨o, d', entered⟩ := State.enterEmergency_parts (s := s.evacJoined d) mode
      rw [first, if_pos rfl, entered, if_neg (by
        obtain mode | mode | mode := mode <;> (intro h; cases mode.symm.trans h))]
      exact ⟨o, d', rfl⟩
    · have stays : (s.evacJoined d).enterEmergency = s.evacJoined d := State.enterEmergency_out (.inr (.inr mode))
      rw [stays, ite_self, if_pos mode, ← mode]
      exact ⟨s.doors.operation, d, rfl⟩
  obtain ⟨o, d', reached⟩ := reached
  refine ⟨_, ⟨o, d', rfl⟩, ?_⟩
  rw [steps, reached]
  unfold State.evacOpenAllowed
  simp only [true_and]

/-- The end of an evacuation: its cause and its alarm. -/
theorem State.endEvacuation_eq (s : State) : ∃ d, s.endEvacuation = { s with
    emer := { s.emer with evacuation := false }
    alarms := s.alarms.clear fun e => decide (e.kind = .evacuation) && decide (e.bay = none)
    send := d } := by
  unfold State.endEvacuation
  dsimp only
  obtain ⟨d, e⟩ := State.flagStatus_send (State.clear .evacuation none
    { s with emer := { s.emer with evacuation := false } }) (State.noCause (State.clear .evacuation none
    { s with emer := { s.emer with evacuation := false } }))
  rw [e]
  exact ⟨_, rfl⟩

/-- The state in which the EVAC line reads `on`. -/
def State.evacAt (s : State) (on : Bool) : State := { s with lines := { s.lines with evac := on } }

theorem State.exec_evacAsserted {s : State} (powered : s.powered = true) (off : s.lines.evac = false)
    (mode : s.mode ≠ .startup) : exec .evacAsserted s = .next (s.evacAt true).begin_.evacuate.finish := by
  have running : (s.evacAt true).begin_.inStartup = false := decide_eq_false mode
  refine (if_neg (by rw [off]; nofun) : execEvacAsserted s = _).trans
    ((exec_event (s := s.evacAt true) _ powered).trans ?_)
  rw [running]
  rfl

theorem State.exec_evacReleased {s : State} (powered : s.powered = true) (on : s.lines.evac = true)
    (mode : s.mode ≠ .startup) : exec .evacReleased s = .next (s.evacAt false).begin_.endEvacuation.finish := by
  have running : (s.evacAt false).begin_.inStartup = false := decide_eq_false mode
  refine (if_pos on : execEvacReleased s = _).trans ((exec_event (s := s.evacAt false) _ powered).trans ?_)
  rw [running]
  rfl

/-- An evacuation opening with a target: its record, its phase, its bays and nothing else. -/
theorem State.evacOpen_started {s : State} (some_ : s.openTargets ≠ []) :
    s.evacOpen = s.startOpen .evacOpen .part s.openTargets :=
  if_neg (by rw [List.isEmpty_eq_false_iff.2 some_]; nofun)

theorem State.evacOpen_idle {s : State} (none : s.openTargets = []) : s.evacOpen = s := by
  unfold State.evacOpen
  rw [none]
  rfl

/-- What a part that an evacuation leads to EMERGENCY comes to. -/
theorem State.evacuate_parts {s : State} (evacuates : s.evacuates) :
    s.evacuate.lines = s.lines ∧ s.evacuate.mode = .emergency ∧
      s.evacuate.emer = ⟨true, s.emer.released, s.evacuationContext⟩ ∧
      (s.alarms.entries.length < 48 → s.evacuate.alarms.isActive .evacuation none = true) ∧
      (s.berth.phase.evacOpens = true → s.openTargets ≠ [] → s.evacuate.berth.phase = .opening ∧
        s.evacuate.doors.operation = some (Operation.started .evacOpen .part s.openTargets s.seconds) ∧
        ∀ b ∈ s.openTargets, 1 ≤ b → b ≤ s.bays.length → (s.evacuate.bay b).state = some .opening) ∧
      ∀ b, s.berth.phase.evacOpens = false ∨ b ∉ s.openTargets → s.evacuate.bay b = s.bay b := by
  obtain ⟨u, ⟨o, d, e⟩, evacuated⟩ := State.evacuate_eq evacuates
  have targets : u.openTargets = s.openTargets := by rw [e]; rfl
  have bays : u.bays = s.bays := by rw [e]
  have raised : s.alarms.entries.length < 48 → u.alarms.isActive .evacuation none = true := fun room => by
    rw [e]
    exact AlarmState.raise_active (a := s.alarms) (.inl room) none none _ rfl
  have opens : s.berth.phase.evacOpens = true → s.openTargets ≠ [] →
      s.evacuate = u.startOpen .evacOpen .part s.openTargets := fun phase some_ => by
    rw [evacuated, if_pos phase, State.evacOpen_started (by rw [targets]; exact some_), targets]
  have stays : ¬(s.berth.phase.evacOpens = true ∧ s.openTargets ≠ []) → s.evacuate = u := fun h => by
    rw [evacuated]
    split
    · rename_i phase
      exact State.evacOpen_idle (targets.trans (Classical.not_not.1 fun some_ => h ⟨phase, some_⟩))
    · rfl
  by_cases opening : s.berth.phase.evacOpens = true ∧ s.openTargets ≠ []
  · have only := (Stable.onlyBays (· ∈ s.openTargets) u).startOpen .evacOpen .part (fun _ h => h)
      (State.OnlyBays.refl _ u)
    obtain ⟨operation, phase, -⟩ := State.startOpen_parts u .evacOpen .part s.openTargets
    rw [opens opening.1 opening.2]
    refine ⟨?_, ?_, ?_, fun room => ?_, fun _ _ => ⟨phase, operation.trans (by rw [e]; rfl), fun b among low high =>
      (State.startOpen_bay s.openTargets_nodup among low (by rw [bays]; exact high) .evacOpen .part).1⟩,
      fun b other => ?_⟩
    · exact (congrArg Setting.lines only.setting).trans (by rw [e]; rfl)
    · exact (congrArg Setting.mode only.setting).trans (by rw [e]; rfl)
    · exact (congrArg Setting.emer only.setting).trans (by rw [e]; rfl)
    · exact (State.startOpen_isActive none (fun st _ => BayState.spares_of (.inr rfl) st) _ _ _).trans (raised room)
    · obtain shut | outside := other
      · rw [opening.1] at shut
        cases shut
      · exact (only.bays b outside).trans (State.bay_congr bays b)
  · rw [stays opening]
    refine ⟨?_, ?_, ?_, raised, fun phase some_ => absurd ⟨phase, some_⟩ opening,
      fun b _ => State.bay_congr bays b⟩ <;> rw [e]

/-- Settles O47: the three cases of the line. -/
theorem evacuationJoinsAndLeavesTheCauseSet : Obligations.EvacuationJoinsAndLeavesTheCauseSet := by
  unfold Obligations.EvacuationJoinsAndLeavesTheCauseSet
  intro s inv shaped count powered
  refine ⟨fun off evacuates => ?_, fun off mode => ?_, fun on mode => ?_⟩
  · have startup : s.mode ≠ .startup := fun h => by
      obtain ⟨mode | mode | mode, -⟩ | mode := evacuates <;> cases h.symm.trans mode
    refine ⟨_, State.exec_evacAsserted powered off startup, ?_⟩
    obtain ⟨lines, mode, emer, alarm, opens, stays⟩ :=
      State.evacuate_parts (s := (s.evacAt true).begin_) evacuates
    generalize (s.evacAt true).begin_.evacuate = u at lines mode emer alarm opens stays
    rw [State.finish_lines, State.finish_mode, State.finish_emer, State.finish_hasActive u (k := .evacuation) none nofun,
      State.finish_doors]
    simp only [State.finish_bay]
    refine ⟨lines, mode, emer, alarm, fun phase some_ => ?_, stays⟩
    obtain ⟨opening, operation, each⟩ := opens phase some_
    refine ⟨?_, operation, fun b among => ?_⟩
    · exact (State.finish_phase u).trans ((State.settledPhase_busy (State.busy_of operation)
        (by rw [opening]; nofun)).trans opening)
    · have inTable := State.mem_openTargets among
      exact each b among (State.inTable_low inTable) (State.inTable_high shaped count inTable)
  · obtain ⟨d, steps⟩ := (s.evacAt true).begin_.evacuate_steps
    have effect : (s.evacAt true).begin_.evacuate = (s.evacAt true).begin_.evacJoined d := by
      rw [steps, State.enterEmergency_out (s := (s.evacAt true).begin_.evacJoined d) (.inr (.inl mode)), ite_self]
      exact if_neg fun h => by cases mode.symm.trans h.1
    refine ⟨_, State.exec_evacAsserted powered off (by rw [mode]; nofun), ?_⟩
    rw [effect, State.finish_lines, State.finish_mode, State.finish_emer, State.finish_hasActive _ (k := .evacuation) none nofun,
      State.finish_doors, State.finish_bays]
    exact ⟨rfl, mode, rfl, fun room => AlarmState.raise_active (a := s.alarms) (.inl room) none none _ rfl,
      rfl, rfl, State.finish_berth (inv.settled powered).phase⟩
  · obtain ⟨d, effect⟩ := (s.evacAt false).begin_.endEvacuation_eq
    refine ⟨_, State.exec_evacReleased powered on mode, ?_⟩
    rw [effect, State.finish_lines, State.finish_mode, State.finish_emer, State.finish_hasActive _ (k := .evacuation) none nofun,
      State.finish_doors, State.finish_bays]
    exact ⟨rfl, rfl, rfl, AlarmState.clear_self _ fun e kind bay => by simp [kind, bay], rfl, rfl,
      State.finish_berth (inv.settled powered).phase⟩

end Sys2Proof.Machine
end

section
/-!
PROOFS. REARM (R130 to R133): the mode, the close of what stands open, the gap checks and the phase derived
from the bays.
-/
namespace Sys2Proof.Machine
open Sys2Proof

/-! ### The derived phase -/

theorem GapStatus.isOpen_iff {g : GapStatus} : g.isOpen = true ↔ g = .pending ∨ g = .failed := by
  cases g <;> simp [GapStatus.isOpen]

/-- Two choices by one condition, whichever way it is decided, agree where their last branches do. -/
theorem ite_of_iff {α : Type} {p q : Prop} {_ : Decidable p} {_ : Decidable q} {x y z : α} (h : p ↔ q)
    (last : y = z) : (if p then x else y) = if q then x else z := by
  obtain rfl := propext h
  subst last
  congr

/-- Two states the judgements cannot tell apart derive one phase. -/
theorem SameView.derivedPhase {s t : State} (h : SameView s t) (closing : Bool) :
    t.derivedPhase closing = s.derivedPhase closing := by
  unfold State.derivedPhase
  simp only [h.servedBays, h.tableBays, h.bayIs, h.gap]

/-- The derived phase without a close, by what stands of the served bays and of the gap checks. -/
theorem State.derivedPhase_eq (s : State) : s.derivedPhase false =
    if ∃ b ∈ s.servedBays, (s.bay b).state = some .opened ∨ (s.bay b).state = some .opening then .opened
    else if ∃ b ∈ s.servedBays, s.bayIs b BayState.isShut = false then .closing
    else if ∃ b ∈ s.tableBays, (s.bay b).gap.isOpen = true then .closedProving
    else .secureBerthed := by
  have open_ : ((s.servedBays.any fun b => s.bayIs b fun x => x == .opened || x == .opening) = true) ↔
      ∃ b ∈ s.servedBays, (s.bay b).state = some .opened ∨ (s.bay b).state = some .opening := by
    rw [List.any_eq_true]
    refine exists_congr fun b => and_congr_right fun _ => ?_
    rw [State.bayIs_iff]
    constructor
    · rintro ⟨st, state, is⟩
      simp only [Bool.or_eq_true, beq_iff_eq] at is
      obtain rfl | rfl := is
      · exact .inl state
      · exact .inr state
    · rintro (state | state)
      · exact ⟨_, state, rfl⟩
      · exact ⟨_, state, rfl⟩
  have shut : ((s.servedBays.any fun b => !s.bayIs b BayState.isShut) = true) ↔
      ∃ b ∈ s.servedBays, s.bayIs b BayState.isShut = false := by
    simp
  have gaps : ((s.tableBays.any fun b => decide ((s.bay b).gap = .pending ∨ (s.bay b).gap = .failed)) = true) ↔
      ∃ b ∈ s.tableBays, (s.bay b).gap.isOpen = true := by
    simp [GapStatus.isOpen_iff]
  unfold State.derivedPhase
  rw [if_neg Bool.false_ne_true]
  exact ite_of_iff open_ (ite_of_iff shut (ite_of_iff gaps rfl))

/-- The derived phase is the one the end of a command leaves, with no operation BUSY. -/
theorem State.settledPhase_derived {s : State} (phase : s.berth.phase = s.derivedPhase false) :
    s.settledPhase = s.berth.phase := by
  have notShut : (∃ b ∈ s.servedBays, s.bayIs b BayState.isShut = false) → s.servedShut = false := by
    rintro ⟨b, among, h⟩
    unfold State.servedShut
    exact List.all_eq_false.2 ⟨b, among, by rw [h]; nofun⟩
  rw [State.derivedPhase_eq] at phase
  split at phase
  · rename_i h
    obtain ⟨b, among, state⟩ := h
    have stands := notShut ⟨b, among, by obtain state | state := state <;> rw [State.bayIs_of state] <;> rfl⟩
    unfold State.settledPhase
    rw [phase, stands, Bool.and_false]
    rfl
  · split at phase
    · rename_i h
      unfold State.settledPhase
      rw [phase, notShut h, Bool.and_false]
      rfl
    · rename_i allShut
      have shut : s.servedShut = true := List.all_eq_true.2 fun b among =>
        Bool.not_eq_false _ ▸ fun h => allShut ⟨b, among, h⟩
      split at phase
      · rename_i h
        have gap : s.someGapOpen = true := List.any_eq_true.2 h
        unfold State.settledPhase
        rw [phase, shut, gap]
        rfl
      · exact State.settledPhase_stands (by rw [phase]; rfl)

/-! ### The gap checks that REARM starts (R132) -/

theorem State.startGaps_parts (s : State) (bs : List Nat) :
    ∃ bays, s.forBays bs State.startGap = { s with bays := bays } :=
  State.forBays_keeps (P := fun t => ∃ bays, t = { s with bays := bays })
    (fun _ _ _ ⟨_, e⟩ => e ▸ ⟨_, rfl⟩) ⟨s.bays, rfl⟩

/-- The start of gap checks leaves every field but the check. -/
theorem State.startGaps_field {α : Type} (g : Bay → α) (blind : ∀ (y : Bay) (n : Millis), g { y with
      gap := .pending, gapFrom := some n } = g y) (s : State) (bs : List Nat) (b : Nat) :
    g ((s.forBays bs State.startGap).bay b) = g (s.bay b) :=
  State.forBays_keeps (P := fun t => g (t.bay b) = g (s.bay b))
    (fun c _ _ h => (State.bay_setBay_field g c _ (blind _ _) b).trans h) rfl

/-- The checks of the bays listed are PENDING, the others as they were. -/
theorem State.startGaps_gap {s : State} {bs : List Nat} (nodup : bs.Nodup)
    (records : ∀ b ∈ bs, 1 ≤ b ∧ b ≤ s.bays.length) (b : Nat) :
    ((s.forBays bs State.startGap).bay b).gap = if b ∈ bs then .pending else (s.bay b).gap := by
  split
  · rename_i among
    obtain ⟨t, length, -, e⟩ := State.forBays_each (P := fun t => t.bays.length = s.bays.length)
      (f := State.startGap) among nodup (fun c _ t h => (State.setBay_length t c _).trans h)
      (fun _ _ _ _ other => State.bay_setBay_ne _ other) (s := s) rfl
    rw [e]
    exact congrArg Bay.gap (State.bay_setBay_self (s := t) _ (records b among).1
      (by rw [length]; exact (records b among).2))
  · rename_i outside
    exact congrArg Bay.gap (State.forBays_other (f := State.startGap) outside fun _ _ _ other =>
      State.bay_setBay_ne _ other)

theorem State.rearmGaps_nodup (s : State) : s.rearmGaps.Nodup := s.servedBays_nodup.filter _

theorem State.mem_rearmGaps {s : State} {b : Nat} (h : b ∈ s.rearmGaps) : s.inTable b = true :=
  State.mem_tableBays.1 (List.mem_filter.1 (List.mem_filter.1 h).1).1

/-- What the derivation of the phase leaves: all but bays, phase and frames, and of each bay all but its gap
check. -/
theorem State.rederive_parts (s : State) (closing : Bool) : ∃ bays p c d, s.rederive closing = { s with
      bays := bays, berth := { s.berth with phase := p, clearFrom := c }, send := d } ∧
    (∀ b, ((s.rederive closing).bay b).state = (s.bay b).state) ∧
    (s.berth.phase.isBerthed = false → p = s.berth.phase) ∧
    (s.berth.phase.isBerthed = true → bays = (s.forBays s.rearmGaps State.startGap).bays ∧
      p = (s.forBays s.rearmGaps State.startGap).derivedPhase closing) := by
  unfold State.rederive
  cases berthed : s.berth.phase.isBerthed with
  | false =>
    rw [if_neg Bool.false_ne_true]
    exact ⟨s.bays, s.berth.phase, s.berth.clearFrom, s.send, rfl, fun _ => rfl, fun _ => rfl, nofun⟩
  | true =>
    rw [if_pos rfl]
    dsimp only
    have states := State.startGaps_field Bay.state (fun _ _ => rfl) s s.rearmGaps
    obtain ⟨bays, e⟩ := s.startGaps_parts s.rearmGaps
    generalize s.forBays s.rearmGaps State.startGap = u at e states
    obtain ⟨c, d, moved⟩ := u.setPhase_parts (u.derivedPhase closing)
    rw [moved]
    exact ⟨u.bays, _, c, d, by rw [e], states, nofun, fun _ => ⟨rfl, rfl⟩⟩

/-! ### REARM -/

/-- The state after the mode has returned and REARM_CLOSE has started, where a bay is its target. -/
def State.rearmStarted (s : State) : State :=
  (s.setMode s.rearmMode).startClose .rearmClose .supervisor s.rearmTargets

/-- REARM ends with the flags and the context cleared. -/
theorem State.rearm_parts (s : State) : ∃ d, s.rearm = { State.mapBays (fun y => { y with evacOpened := false })
      (s.rearmStarted.rederive !s.rearmTargets.isEmpty) with
    emer := { (s.rearmStarted.rederive !s.rearmTargets.isEmpty).emer with context := none }, send := d } :=
  ⟨_, rfl⟩

theorem State.setMode_parts (s : State) (m : Mode) : ∃ d, s.setMode m = { s with mode := m, send := d } := by
  unfold State.setMode
  split
  · rename_i h
    exact ⟨s.send, by rw [← h]⟩
  · exact ⟨_, rfl⟩

theorem State.rearmMode_ne (s : State) : s.rearmMode ≠ .emergency := by
  unfold State.rearmMode
  split
  · nofun
  · split
    · nofun
    · split <;> nofun
    · nofun

/-- What the start of REARM_CLOSE leaves, and what becomes of the operation and of the other bays. -/
theorem State.rearmStarted_parts (s : State) :
    s.rearmStarted.mode = s.rearmMode ∧ s.rearmStarted.emer = s.emer ∧
      s.rearmStarted.berth.phase = s.berth.phase ∧
      (∀ b, b ∉ s.rearmTargets → s.rearmStarted.bay b = s.bay b) ∧
      (s.rearmTargets = [] → ∃ d, s.rearmStarted = { s with mode := s.rearmMode, send := d }) ∧
      (s.rearmTargets ≠ [] → s.rearmStarted.doors.operation =
        some (Operation.started .rearmClose .supervisor s.rearmTargets s.seconds)) := by
  obtain ⟨d, moved⟩ := s.setMode_parts s.rearmMode
  have only := (Stable.onlyBays (· ∈ s.rearmTargets) (s.setMode s.rearmMode)).startClose .rearmClose .supervisor
    (fun _ h => h) (State.OnlyBays.refl _ _)
  have started : s.rearmTargets ≠ [] → s.rearmStarted.doors.operation =
      some (Operation.started .rearmClose .supervisor s.rearmTargets s.seconds) ∧
      s.rearmStarted.berth.phase = s.berth.phase := fun some_ => by
    obtain ⟨operation, phase, -⟩ := (s.setMode s.rearmMode).startClose_parts .rearmClose .supervisor some_
    rw [moved] at operation phase
    unfold State.rearmStarted
    rw [moved]
    exact ⟨operation, phase⟩
  have idle : s.rearmTargets = [] → s.rearmStarted = { s with mode := s.rearmMode, send := d } := fun none => by
    unfold State.rearmStarted
    rw [none, moved]
    rfl
  have phase : s.rearmStarted.berth.phase = s.berth.phase := by
    by_cases none : s.rearmTargets = []
    · rw [idle none]
    · exact (started none).2
  refine ⟨(congrArg Setting.mode only.setting).trans ?_, (congrArg Setting.emer only.setting).trans ?_, phase,
    fun b other => (only.bays b other).trans ?_, fun none => ⟨d, idle none⟩, fun some_ => (started some_).1⟩ <;>
    (rw [moved]; rfl)

/-- What REARM leaves: mode and emergency state, and the bay states, the operation and the phase as the bays
derive it. -/
theorem State.rearm_leaves (s : State) :
    s.rearm.mode = s.rearmMode ∧ s.rearm.emer = { s.emer with context := none } ∧
      (∀ b, (s.rearm.bay b).evacOpened = false) ∧ s.rearm.doors = s.rearmStarted.doors ∧
      (∀ b, (s.rearm.bay b).state = (s.rearmStarted.bay b).state) ∧
      (s.berth.phase.isBerthed = false → s.rearm.berth.phase = s.berth.phase) ∧
      (s.berth.phase.isBerthed = true →
        s.rearm.berth.phase = s.rearm.derivedPhase (!s.rearmTargets.isEmpty) ∧
        ∀ b, (s.rearm.bay b).gap =
          ((s.rearmStarted.forBays s.rearmStarted.rearmGaps State.startGap).bay b).gap) ∧
      s.rearm.berth.record = s.rearmStarted.berth.record := by
  obtain ⟨mode, emer, phase, -⟩ := s.rearmStarted_parts
  obtain ⟨d, e⟩ := s.rearm_parts
  obtain ⟨bays, p, c, d', derived, states, stands, berthed⟩ :=
    s.rearmStarted.rederive_parts (!s.rearmTargets.isEmpty)
  have bay : ∀ b, s.rearm.bay b = { (s.rearmStarted.rederive !s.rearmTargets.isEmpty).bay b with
      evacOpened := false } := fun b => by
    rw [e]
    exact State.bay_mapBays (s := s.rearmStarted.rederive !s.rearmTargets.isEmpty)
      (f := fun y => { y with evacOpened := false }) rfl b
  rw [phase] at stands berthed
  have view : s.berth.phase.isBerthed = true →
      SameView (s.rearmStarted.forBays s.rearmStarted.rearmGaps State.startGap) s.rearm := fun h => by
    obtain ⟨same, -⟩ := berthed h
    obtain ⟨bays', gaps⟩ := s.rearmStarted.startGaps_parts s.rearmStarted.rearmGaps
    have record : ∀ b, s.rearm.bay b = { (s.rearmStarted.forBays s.rearmStarted.rearmGaps State.startGap).bay b with
        evacOpened := false } := fun b => by
      rw [bay, derived, State.bay_congr (t := { s.rearmStarted with
        bays := bays, berth := { s.rearmStarted.berth with phase := p, clearFrom := c }, send := d' }) same]
    refine ⟨.inl ?_, fun b => (congrArg Bay.state (record b) :), fun b => (congrArg Bay.gap (record b) :), ?_, ?_,
      ?_, ?_, ?_, ?_⟩ <;> rw [e, derived, gaps] <;> first | rfl | exact fun _ => rfl
  refine ⟨?_, ?_, fun b => ?_, ?_, fun b => ?_, fun h => ?_, fun h => ⟨?_, (view h).gap⟩, ?_⟩
  · rw [e, derived]
    exact mode
  · rw [e, derived, ← emer]
  · rw [bay]
  · rw [e, derived]
    rfl
  · rw [bay]
    exact states b
  · rw [e, derived]
    exact stands h
  · rw [(view h).derivedPhase, ← (berthed h).2, e, derived]
    rfl
  · rw [e, derived]
    rfl

theorem State.rearmRequest_accepted {s : State} (mode : s.mode = .emergency) (noCause : s.noCause = true)
    (idle : s.busy = none) : s.rearmRequest = s.rearm.answer .done := by
  unfold State.rearmRequest
  simp [mode, noCause, idle]

/-- With nothing to close the phase is that of R132, after the gap checks due. -/
theorem State.rearm_derives {s : State} (shaped : s.Shaped) (count : s.doors.count ≤ 24)
    (none : s.rearmTargets = []) (berthed : s.berth.phase.isBerthed = true) :
    (∀ b ∈ s.rearmGaps, (s.rearm.bay b).gap = .pending) ∧ s.rearm.berth.phase = s.rearm.derivedPhase false ∧
      s.rearm.derivedPhase false =
        if ∃ b ∈ s.servedBays, (s.bay b).state = some .opened ∨ (s.bay b).state = some .opening then .opened
        else if ∃ b ∈ s.servedBays, s.bayIs b BayState.isShut = false then .closing
        else if s.rearmGaps ≠ [] ∨ ∃ b ∈ s.tableBays, (s.bay b).gap.isOpen = true then .closedProving
        else .secureBerthed := by
  obtain ⟨-, -, -, -, idle, -⟩ := s.rearmStarted_parts
  obtain ⟨d, started⟩ := idle none
  obtain ⟨-, -, -, doors, states, -, derives, record⟩ := s.rearm_leaves
  obtain ⟨phase, gaps⟩ := derives berthed
  have same : s.rearmStarted.rearmGaps = s.rearmGaps := by rw [started]; rfl
  rw [same] at gaps
  have gap : ∀ b, (s.rearm.bay b).gap = if b ∈ s.rearmGaps then .pending else (s.bay b).gap := fun b => by
    rw [gaps b, State.startGaps_gap s.rearmGaps_nodup (fun b h => ⟨State.inTable_low (State.mem_rearmGaps h), by
      rw [started]
      exact State.inTable_high shaped count (State.mem_rearmGaps h)⟩), started]
    rfl
  have state : ∀ b, (s.rearm.bay b).state = (s.bay b).state := fun b => by
    rw [states b, started]
    rfl
  have table : s.rearm.tableBays = s.tableBays := by
    unfold State.tableBays
    rw [doors, started]
  have served : s.rearm.servedBays = s.servedBays := by
    have map : ∀ b, s.rearm.mapClass b = s.mapClass b := State.mapClass_congr (by rw [record, started])
    unfold State.servedBays State.isServed State.matchedDoor
    simp only [table, map]
  have is : ∀ b, s.rearm.bayIs b BayState.isShut = s.bayIs b BayState.isShut := fun b => by
    unfold State.bayIs
    rw [state b]
  have anyGap : (∃ b ∈ s.rearm.tableBays, (s.rearm.bay b).gap.isOpen = true) ↔
      (s.rearmGaps ≠ [] ∨ ∃ b ∈ s.tableBays, (s.bay b).gap.isOpen = true) := by
    rw [table]
    constructor
    · rintro ⟨b, among, h⟩
      rw [gap b] at h
      split at h
      · rename_i due
        exact .inl (List.ne_nil_of_mem due)
      · exact .inr ⟨b, among, h⟩
    · rintro (some_ | ⟨b, among, h⟩)
      · obtain ⟨b, due⟩ := List.exists_mem_of_ne_nil _ some_
        exact ⟨b, State.mem_tableBays.2 (State.mem_rearmGaps due), by rw [gap b, if_pos due]; rfl⟩
      · refine ⟨b, among, ?_⟩
        rw [gap b]
        split
        · rfl
        · exact h
  refine ⟨fun b due => by rw [gap b, if_pos due], ?_, ?_⟩
  · rw [phase, none]
    rfl
  · rw [State.derivedPhase_eq]
    simp only [served, state, is]
    exact ite_of_iff Iff.rfl (ite_of_iff Iff.rfl (ite_of_iff anyGap rfl))

/-- Settles O46: with a bay to close the close is BUSY and the phase CLOSING; without, the phase is derived and
stands. -/
theorem rearmReturnsThePlatform : Obligations.RearmReturnsThePlatform := by
  unfold Obligations.RearmReturnsThePlatform
  intro s r inv shaped count accepted mode noCause idle
  obtain ⟨y, done, replied⟩ := accepted.request_finish (owner := State.rearmRequest) rfl
    (State.rearmRequest_accepted (s := s.begin_) mode noCause idle)
  obtain ⟨-, -, stood, others, unclosed, closed⟩ := s.begin_.rearmStarted_parts
  obtain ⟨mode', emer, flags, doors, states, stands, derives, -⟩ := s.begin_.rearm_leaves
  have derived := State.rearm_derives (s := s.begin_) shaped count
  have noOp : s.rearmTargets = [] → s.begin_.rearm.doors = s.doors := fun none => by
    obtain ⟨d, e⟩ := unclosed none
    rw [doors, e]
    rfl
  have noMove : s.rearmTargets = [] → ∀ b, (s.begin_.rearm.bay b).state = (s.bay b).state := fun none b => by
    obtain ⟨d, e⟩ := unclosed none
    rw [states b, e]
    rfl
  have started : s.rearmTargets ≠ [] → s.begin_.rearm.doors.operation =
      some (Operation.started .rearmClose .supervisor s.rearmTargets s.seconds) := fun some_ => by
    rw [doors]
    exact closed some_
  have kept : ∀ b, b ∉ s.rearmTargets → (s.begin_.rearm.bay b).state = (s.bay b).state := fun b other =>
    (states b).trans (congrArg Bay.state (others b other))
  have closing : s.rearmTargets ≠ [] → s.berth.phase.isBerthed = true → s.begin_.rearm.berth.phase = .closing :=
    fun some_ berthed => by
      obtain ⟨phase, -⟩ := derives berthed
      rw [phase, show s.begin_.rearmTargets = s.rearmTargets from rfl, List.isEmpty_eq_false_iff.2 some_]
      rfl
  generalize s.begin_.rearm = u at *
  have phase : u.settledPhase = u.berth.phase := by
    cases berthed : s.berth.phase.isBerthed with
    | false =>
      have same := stands berthed
      refine State.settledPhase_stands ?_
      rw [same]
      show s.berth.phase.waits = false
      cases phase : s.berth.phase <;> rw [phase] at berthed <;> first | rfl | cases berthed
    | true =>
      by_cases none : s.rearmTargets = []
      · exact State.settledPhase_derived (derived none berthed).2.1
      · exact State.settledPhase_busy (State.busy_of (started none)) (by rw [closing none berthed]; nofun)
  have final : ∀ b, ({ u.finish with send := y } : State).bay b = u.bay b := State.finish_bay u
  have berth := (State.finish_phase u).trans phase
  refine ⟨_, done, (State.finish_mode u).trans mode', ?_, ?_, ?_, fun b => ?_, fun none => ⟨?_, fun b => ?_,
    fun berthed => ?_⟩, fun some_ => ⟨?_, fun b other => ?_, fun berthed => ?_⟩, fun h => ?_, replied⟩
  · exact fun h => s.rearmMode_ne (((State.finish_mode u).trans mode').symm.trans h)
  · exact (congrArg EmergencyState.context (State.finish_emer u)).trans (by rw [emer])
  · unfold State.noCause
    show (!u.finish.emer.evacuation && u.finish.emer.released.isEmpty) = true
    rw [State.finish_emer, emer]
    exact noCause
  · exact (congrArg Bay.evacOpened (final b)).trans (flags b)
  · exact (State.finish_doors u).trans (noOp none)
  · exact (congrArg Bay.state (final b)).trans (noMove none b)
  · obtain ⟨pending, moved, which⟩ := derived none berthed
    exact ⟨fun b due => (congrArg Bay.gap (final b)).trans (pending b due), berth.trans (moved.trans which)⟩
  · exact (congrArg DoorState.operation (State.finish_doors u)).trans (started some_)
  · exact (congrArg Bay.state (final b)).trans (kept b other)
  · exact berth.trans (closing some_ berthed)
  · exact berth.trans (stands h)

end Sys2Proof.Machine
end

section
/-!
PROOFS. One good reply (R87 to R94, R97 to R101, R120, R144): what each field of it does to the record of its
bay, in the order in which they act.
-/
namespace Sys2Proof.Machine
open Sys2Proof

/-- What touches no bay record leaves the records as they are. -/
theorem Stable.sameBays (x : List Bay) :
    Stable { bay := fun _ => False, emer := True, mode := True, secure := True } fun s => s.bays = x where
  send _ _ h := h
  bay _ _ h := h.elim
  bays _ h := (h 0).elim
  record _ _ h := h
  phase _ _ h := h
  berth _ h := h.elim
  queue _ h := h.elim
  operation _ h := h
  removal _ h := h
  doors _ h := h.elim
  alarm _ _ _ h := h
  cleared _ h := h
  sense _ h := h.elim
  emer _ _ h := h
  mode _ _ h := h
  link _ h := h.elim
  bus _ h := h.elim
  secure _ _ h := h
  store _ h := h.elim
  startup _ h := h.elim

/-! ### What a reply writes of its bay for good -/

/-- The fields of a bay record that the keeping of a reply sets and no field of the reply changes after it. -/
def Bay.heard (y : Bay) : Option (NodeReply × Seconds) × ProvingClass × Nat × Bool :=
  (y.lastReply, y.cls, y.missed, y.lost)

/-- From `s` to `t` the heard fields of bay `b` stand. -/
structure State.Hears (b : Nat) (s t : State) : Prop where
  length : t.bays.length = s.bays.length
  heard : (t.bay b).heard = (s.bay b).heard

namespace State.Hears
variable {s t u : State} {b : Nat}

theorem refl (b : Nat) (s : State) : State.Hears b s s := ⟨rfl, rfl⟩

theorem trans (h : State.Hears b s t) (g : State.Hears b t u) : State.Hears b s u :=
  ⟨g.length.trans h.length, g.heard.trans h.heard⟩

theorem of_bays (h : t.bays = s.bays) : State.Hears b s t :=
  ⟨congrArg List.length h, congrArg Bay.heard (State.bay_congr h b)⟩

theorem setBay (f : Bay → Bay) (h : ∀ y, (f y).heard = y.heard) : State.Hears b s (s.setBay b f) :=
  ⟨State.setBay_length s b f, State.bay_setBay_field Bay.heard b f (h _) b⟩

variable (h1 : 1 ≤ b) (h2 : b ≤ s.bays.length)
include h1 h2

theorem enterState (st : BayState) : State.Hears b s (s.enterState b st) := by
  refine ⟨State.enterState_length s b st, ?_⟩
  obtain ⟨y, e, core, -, entered⟩ := State.enterState_bay h1 h2 st
  rw [entered]
  exact (congrArg Bay.heard core :)

theorem endStep (x : StepResult) : State.Hears b s (s.endStep b x) :=
  ⟨State.endStep_length x, (congrArg Bay.heard (State.endStep_core h1 h2 x) :)⟩

theorem leaveState (old : Option BayState) (st : BayState) : State.Hears b s (s.leaveState b old st) :=
  ⟨(Stable.length { bay := fun _ => True } s.bays.length id).leaveState old st trivial rfl,
    (congrArg Bay.heard (State.leaveState_core h1 h2 old st) :)⟩

theorem joinRelease (c : ReleaseContact) : State.Hears b s (s.joinRelease b c) := by
  have entered : State.Hears b s (s.setBay b (Bay.enter .released s.now)) := setBay _ fun _ => rfl
  have stable := Stable.sameBays (s.setBay b (Bay.enter .released s.now)).bays
  unfold State.joinRelease
  dsimp only
  generalize told : State.handOn b .released _ = t
  have bays : t.bays = (s.setBay b (Bay.enter .released s.now)).bays := by
    rw [← told]
    exact stable.handOn b .released (stable.notice _ (stable.flagStatus s.noCause (stable.raise _ _ _ rfl)))
  have all := entered.trans (of_bays bays)
  exact all.trans (leaveState h1 (by rw [all.length]; exact h2) _ _)

theorem releaseBay (c : ReleaseContact) : State.Hears b s (s.releaseBay b c) := by
  have joined := joinRelease h1 h2 c
  unfold State.releaseBay
  dsimp only
  split
  · have stable := Stable.sameBays (s.joinRelease b c).bays
    exact joined.trans (of_bays (stable.enterEmergency trivial trivial (stable.setPhase _ rfl)))
  · exact joined

end State.Hears

/-! ### Each stage of a reply leaves what has been heard -/

section
variable {s : State} {r : NodeReply} (h1 : 1 ≤ r.bay) (h2 : r.bay ≤ s.bays.length)
include h1 h2

theorem State.applyRelease_hears : State.Hears r.bay s (s.applyRelease r) := by
  unfold State.applyRelease
  split
  · exact .releaseBay h1 h2 r.contact
  · exact .refl r.bay s

omit h1 h2 in
theorem State.endDiscrepancy_hears : State.Hears r.bay s (s.endDiscrepancy r) := by
  unfold State.endDiscrepancy
  split
  · exact .refl r.bay s
  · exact .of_bays rfl

theorem State.lockClosing_hears : State.Hears r.bay s (s.lockClosing r.bay) := by
  have entered : State.Hears r.bay s (s.enterState r.bay .locked) := .enterState h1 h2 .locked
  unfold State.lockClosing
  dsimp only
  split
  · exact entered.trans (.setBay _ fun _ => rfl)
  · exact entered

theorem State.applyProving_hears (returned : Bool) : State.Hears r.bay s (s.applyProving r returned) := by
  have stays := State.Hears.refl r.bay s
  unfold State.applyProving
  split
  case h_1 =>
    split
    · exact stays
    · exact (State.Hears.enterState h1 h2 _).trans (.of_bays rfl)
  case h_2 =>
    split
    · exact State.lockClosing_hears h1 h2
    · exact stays
  case h_3 =>
    split
    · exact .enterState h1 h2 .locked
    · exact stays
  case h_4 =>
    split
    · split
      · exact .endStep h1 h2 .complete
      · exact stays
    · exact stays
  all_goals exact stays

theorem State.takeEvent_hears (e : MotionEvent) : State.Hears r.bay s (s.takeEvent r.bay e) := by
  have marked : State.Hears r.bay s (s.setBay r.bay fun y => { y with obstructed := true }) :=
    .setBay _ fun _ => rfl
  have enters : ∀ st, State.Hears r.bay s
      ((s.setBay r.bay fun y => { y with obstructed := true }).enterState r.bay st) := fun st =>
    marked.trans (.enterState h1 (by rw [marked.length]; exact h2) st)
  have stays := State.Hears.refl r.bay s
  have ends : ∀ x, State.Hears r.bay s (s.endStep r.bay x) := fun x => .endStep h1 h2 x
  unfold State.takeEvent
  split
  case h_1 => exact .enterState h1 h2 .opened
  case h_2 => exact enters _
  case h_3 => exact enters _
  case h_4 => exact .enterState h1 h2 _
  case h_5 => exact enters _
  case h_6 => split <;> simp only [ends, stays]
  case h_7 => split <;> simp only [ends, stays]
  case h_8 => split <;> simp only [ends, stays]
  case h_9 => exact stays

theorem State.applyMotion_hears : State.Hears r.bay s (s.applyMotion r) := by
  have noted : State.Hears r.bay s (s.setBay r.bay fun y => { y with lastEvent := some r.eventNo }) :=
    .setBay _ fun _ => rfl
  unfold State.applyMotion
  split
  · exact noted.trans (State.takeEvent_hears h1 (by rw [noted.length]; exact h2) _)
  · exact .refl r.bay s

theorem State.applyIso_hears : State.Hears r.bay s (s.applyIso r) := by
  unfold State.applyIso
  split
  · refine ⟨(Stable.length { bay := fun _ => True } s.bays.length id).isolate .byContact (b := r.bay) trivial rfl, ?_⟩
    rw [State.isolate_bay h1 h2]
    rfl
  · exact .refl r.bay s

end

/-! ### The sensor fields (R97 to R99) -/

/-- A bay record but for its sensor fields. -/
def Bay.unsensed (y : Bay) : Bay :=
  { y with
    presence := false, presenceSince := 0, stuck := false
    zone := false, zoneSince := 0, zoneFresh := false, zoneConfirmed := false }

/-- The state with the sensor fields of a reply taken, before a clear doorway ends CLOSE_WAIT. -/
def State.sensed (r : NodeReply) (s : State) : State :=
  let s1 := s.setBay r.bay (Bay.takePresence r.presence s.now)
  let s2 := if (s.bay r.bay).stuck && !r.presence then s1.clear .presenceStuck (some r.bay) else s1
  if s2.bayIs r.bay (· == .isolated) then s2
  else s2.setBay r.bay (Bay.takeZone (s2.zoneTaken r.bay r.gap) s2.now)

theorem State.applySensors_eq (r : NodeReply) (s : State) : s.applySensors r =
    if !r.presence && (s.sensed r).bayIs r.bay (· == .closeWait) then
      (s.sensed r).enterState r.bay (.closing .normal) else s.sensed r := rfl

theorem Bay.takeZone_unsensed (z : Bool) (n : Millis) (y : Bay) :
    (Bay.takeZone z n y).unsensed = y.unsensed ∧ (Bay.takeZone z n y).presence = y.presence := by
  unfold Bay.takeZone
  split <;> exact ⟨rfl, rfl⟩

theorem State.sensed_parts (r : NodeReply) (s : State) : ∃ bays al d, s.sensed r = { s with
      bays := bays, alarms := al, send := d } ∧ bays.length = s.bays.length ∧
    ∀ k c, k ≠ .presenceStuck → al.isActive k c = s.alarms.isActive k c := by
  have cleared : ∀ k c, k ≠ .presenceStuck → (s.alarms.clear fun e =>
      decide (e.kind = .presenceStuck) && decide (e.bay = some r.bay)).isActive k c = s.alarms.isActive k c :=
    fun k c other => AlarmState.clear_other _ fun e kind _ => by simp [kind, other]
  unfold State.sensed
  dsimp only
  split <;> split
  · exact ⟨_, _, _, rfl, State.setBay_length s _ _, cleared⟩
  · exact ⟨_, _, _, rfl, (State.setBay_length _ _ _).trans (State.setBay_length s _ _), cleared⟩
  · exact ⟨_, s.alarms, s.send, rfl, State.setBay_length s _ _, fun _ _ _ => rfl⟩
  · exact ⟨_, s.alarms, s.send, rfl, (State.setBay_length _ _ _).trans (State.setBay_length s _ _),
      fun _ _ _ => rfl⟩

section
variable {s : State} {r : NodeReply} (h1 : 1 ≤ r.bay) (h2 : r.bay ≤ s.bays.length)
include h1 h2

/-- The sensor fields of the reply are the only ones it takes. -/
theorem State.sensed_bay : ((s.sensed r).bay r.bay).unsensed = (s.bay r.bay).unsensed ∧
    ((s.sensed r).bay r.bay).presence = r.presence := by
  have taken := State.bay_setBay_self (s := s) (Bay.takePresence r.presence s.now) h1 h2
  unfold State.sensed
  dsimp only
  generalize cleared : (if (s.bay r.bay).stuck && !r.presence then
    (s.setBay r.bay (Bay.takePresence r.presence s.now)).clear .presenceStuck (some r.bay) else
      s.setBay r.bay (Bay.takePresence r.presence s.now)) = u
  have bays : u.bays = (s.setBay r.bay (Bay.takePresence r.presence s.now)).bays := by
    rw [← cleared]
    split <;> rfl
  have bay : u.bay r.bay = Bay.takePresence r.presence s.now (s.bay r.bay) := (State.bay_congr bays _).trans taken
  split
  · rw [bay]
    exact ⟨rfl, rfl⟩
  · rw [State.bay_setBay_self _ h1 (by rw [bays, State.setBay_length]; exact h2), bay]
    obtain ⟨same, presence⟩ := Bay.takeZone_unsensed (u.zoneTaken r.bay r.gap) u.now
      (Bay.takePresence r.presence s.now (s.bay r.bay))
    exact ⟨same.trans rfl, presence.trans rfl⟩

/-- Where no clear doorway ends CLOSE_WAIT the sensor fields are all that changes of the bay. -/
theorem State.applySensors_still (still : r.presence = true ∨ (s.bay r.bay).state ≠ some .closeWait) :
    s.applySensors r = s.sensed r := by
  rw [State.applySensors_eq]
  refine if_neg fun h => ?_
  rw [Bool.and_eq_true, Bool.not_eq_true'] at h
  obtain ⟨absent, waits⟩ := h
  obtain ⟨st, state, is⟩ := State.bayIs_iff.1 waits
  have same : ((s.sensed r).bay r.bay).state = (s.bay r.bay).state :=
    (congrArg Bay.state (State.sensed_bay h1 h2).1 :)
  obtain present | moves := still
  · cases absent.symm.trans present
  · exact moves (same.symm.trans (state.trans (congrArg some (beq_iff_eq.1 is))))

/-- A clear doorway takes a bay in CLOSE_WAIT to CLOSING (NORMAL). -/
theorem State.applySensors_clear (absent : r.presence = false) (waits : (s.bay r.bay).state = some .closeWait) :
    ((s.applySensors r).bay r.bay).state = some (.closing .normal) ∧
      ((s.applySensors r).bay r.bay).timer = some s.now := by
  obtain ⟨bays, al, d, e, length, -⟩ := s.sensed_parts r
  have same : ((s.sensed r).bay r.bay).state = some .closeWait :=
    (congrArg Bay.state (State.sensed_bay h1 h2).1 :).trans waits
  have moves : s.applySensors r = (s.sensed r).enterState r.bay (.closing .normal) := by
    rw [State.applySensors_eq, absent, State.bayIs_of same]
    rfl
  obtain ⟨state, timer, -⟩ := State.enterState_timed (s := s.sensed r) h1
    (by rw [e]; exact length.symm ▸ h2) (st := .closing .normal) rfl rfl
  rw [moves]
  exact ⟨state, timer.trans (by rw [e])⟩

theorem State.applySensors_hears : State.Hears r.bay s (s.applySensors r) ∧
    ((s.applySensors r).bay r.bay).presence = r.presence := by
  obtain ⟨bays, al, d, e, length, -⟩ := s.sensed_parts r
  obtain ⟨same, presence⟩ := State.sensed_bay h1 h2
  have long : (s.sensed r).bays.length = s.bays.length := by rw [e]; exact length
  have heard : State.Hears r.bay s (s.sensed r) := ⟨long, (congrArg Bay.heard same :)⟩
  rw [State.applySensors_eq]
  split
  · refine ⟨heard.trans (.enterState h1 (by rw [long]; exact h2) _), ?_⟩
    rw [State.enterState_record h1 (by rw [long]; exact h2) (st := .closing .normal) nofun]
    exact presence
  · exact ⟨heard, presence⟩

end

/-! ### The keeping of a reply (R87, R93) -/

/-- The state with a reply kept and an earlier discrepancy ended. -/
def State.replyKept (r : NodeReply) (s : State) : State := (s.keepReply r).endDiscrepancy r

theorem State.keepReply_parts (r : NodeReply) (s : State) : ∃ al d, s.keepReply r = { s with
      bus := { s.bus with awaiting := none }
      bays := (s.setBay r.bay (Bay.keepReply r s.inStartup s.now)).bays, alarms := al, send := d } ∧
    al.entries.length = s.alarms.entries.length ∧
    ((s.bay r.bay).lost = true → al.isActive .nodeLost (some r.bay) = false) := by
  unfold State.keepReply
  dsimp only
  split
  · exact ⟨_, _, rfl, AlarmState.clear_length _ _, fun _ =>
      AlarmState.clear_self _ fun e kind bay => by simp [kind, bay]⟩
  · rename_i live
    exact ⟨s.alarms, s.send, rfl, rfl, fun h => absurd h live⟩

theorem State.endDiscrepancy_parts (r : NodeReply) (s : State) : ∃ al d, s.endDiscrepancy r = { s with
      alarms := al, send := d } ∧ al.entries.length = s.alarms.entries.length ∧
    ∀ k c, k ≠ .provingDiscrepant → al.isActive k c = s.alarms.isActive k c := by
  unfold State.endDiscrepancy
  split
  · exact ⟨s.alarms, s.send, rfl, rfl, fun _ _ _ => rfl⟩
  · exact ⟨_, _, rfl, AlarmState.clear_length _ _, fun k c other =>
      AlarmState.clear_other _ fun e kind _ => by simp [kind, other]⟩

/-- A kept reply changes the record of its bay, the poll and the alarms. -/
theorem State.replyKept_parts (r : NodeReply) (s : State) : ∃ al d, s.replyKept r = { s with
      bus := { s.bus with awaiting := none }
      bays := (s.setBay r.bay (Bay.keepReply r s.inStartup s.now)).bays, alarms := al, send := d } ∧
    al.entries.length = s.alarms.entries.length ∧
    ((s.bay r.bay).lost = true → al.isActive .nodeLost (some r.bay) = false) := by
  obtain ⟨al, d, kept, length, gone⟩ := s.keepReply_parts r
  obtain ⟨al', d', ended, length', same⟩ := State.endDiscrepancy_parts r (s.keepReply r)
  refine ⟨al', d', ?_, ?_, fun lost => ?_⟩
  · unfold State.replyKept
    rw [ended, kept]
  · rw [length', kept]
    exact length
  · rw [same .nodeLost _ nofun, kept]
    exact gone lost

theorem State.keepReply_bay {s : State} {r : NodeReply} (h1 : 1 ≤ r.bay) (h2 : r.bay ≤ s.bays.length) :
    (s.keepReply r).bay r.bay = Bay.keepReply r s.inStartup s.now (s.bay r.bay) := by
  obtain ⟨al, d, kept, -⟩ := s.keepReply_parts r
  rw [State.bay_congr (congrArg State.bays kept)]
  exact State.bay_setBay_self (s := s) _ h1 h2

theorem State.keepReply_length (r : NodeReply) (s : State) : (s.keepReply r).bays.length = s.bays.length := by
  obtain ⟨al, d, kept, -⟩ := s.keepReply_parts r
  rw [kept]
  exact State.setBay_length s _ _

/-- What every reply leaves of its bay (R87). -/
theorem State.takeReply_heard {s : State} {r : NodeReply} (h1 : 1 ≤ r.bay) (h2 : r.bay ≤ s.bays.length) :
    ((s.takeReply r).bay r.bay).heard = (some (r, s.now / 1000), r.cls, 0, false) ∧
      ((s.takeReply r).bay r.bay).presence = r.presence := by
  have kept := State.keepReply_bay h1 h2
  have length := s.keepReply_length r
  unfold State.takeReply
  dsimp only
  generalize s.keepReply r = k at kept length
  have released : State.Hears r.bay k (k.applyRelease r) := State.applyRelease_hears h1 (by omega)
  have ended := released.trans (State.endDiscrepancy_hears (r := r))
  have proven := ended.trans (State.applyProving_hears h1 (by rw [ended.length]; omega) (s.bay r.bay).returning)
  have moved := proven.trans (State.applyMotion_hears h1 (by rw [proven.length]; omega))
  have isolated := moved.trans (State.applyIso_hears h1 (by rw [moved.length]; omega))
  obtain ⟨sensed, presence⟩ := State.applySensors_hears (r := r) h1
    (s := ((((k.applyRelease r).endDiscrepancy r).applyProving r (s.bay r.bay).returning).applyMotion r).applyIso r)
    (by rw [isolated.length]; omega)
  refine ⟨(isolated.trans sensed).heard.trans ?_, presence⟩
  rw [kept]
  rfl

/-! ### The motion event (R86) -/

/-- No motion event acts on bay `b` of `s`. -/
def State.Deaf (b : Nat) (s : State) : Prop :=
  ∀ t : State, (t.bay b).state = (s.bay b).state → (t.bay b).step = (s.bay b).step → ∀ e, t.takeEvent b e = t

/-- The states of a bay that no motion event changes. -/
def BayState.isDeaf : BayState → Bool
  | .opening | .closing _ | .reopening _ _ | .test => false
  | _ => true

theorem State.deaf_of {s : State} {b : Nat} {st : BayState} (state : (s.bay b).state = some st)
    (deaf : st.isDeaf = true) : s.Deaf b := fun t same _ e => by
  unfold State.takeEvent
  rw [same, state]
  cases st <;> first | rfl | cases deaf

/-- A step in progress is what a TEST bay hears for. -/
theorem State.deaf_of_test {s : State} {b : Nat} (state : (s.bay b).state = some .test)
    (idle : (s.bay b).progress = none) : s.Deaf b := fun t same step e => by
  have progress : (t.bay b).progress = none := by
    unfold Bay.progress at idle ⊢
    rw [step]
    exact idle
  unfold State.takeEvent
  rw [same, state, progress]
  cases e <;> rfl

section
variable {s : State} {r : NodeReply} (h1 : 1 ≤ r.bay) (h2 : r.bay ≤ s.bays.length)
include h1 h2

/-- A deaf bay keeps its record through a motion event, its last event apart. -/
theorem State.applyMotion_deaf (deaf : s.Deaf r.bay) : ∃ bays x, s.applyMotion r = { s with bays := bays } ∧
    bays.length = s.bays.length ∧ (s.applyMotion r).bay r.bay = { s.bay r.bay with lastEvent := x } := by
  unfold State.applyMotion
  split
  · rw [deaf _ (State.bay_setBay_field Bay.state r.bay _ rfl _) (State.bay_setBay_field Bay.step r.bay _ rfl _)]
    exact ⟨_, _, rfl, State.setBay_length s _ _, State.bay_setBay_self _ h1 h2⟩
  · exact ⟨s.bays, _, rfl, rfl, rfl⟩

omit h1 h2 in
theorem State.applyMotion_accepted (event : r.event ≠ .noEvent)
    (fresh : (s.bay r.bay).lastEvent ≠ some r.eventNo) : s.applyMotion r =
      (s.setBay r.bay fun y => { y with lastEvent := some r.eventNo }).takeEvent r.bay r.event := by
  unfold State.applyMotion Bay.accepts
  rw [decide_eq_true event, decide_eq_true fresh]
  rfl

end

/-! ### A reply without contacts -/

section
variable {s : State} {r : NodeReply} (h1 : 1 ≤ r.bay) (h2 : r.bay ≤ s.bays.length)

theorem State.takeReply_unreleased (free : r.releases = false) : s.takeReply r =
    ((((s.replyKept r).applyProving r (s.bay r.bay).returning).applyMotion r).applyIso r).applySensors r := by
  have stays : (s.keepReply r).applyRelease r = s.keepReply r := by
    unfold State.applyRelease
    rw [free]
    rfl
  unfold State.takeReply
  dsimp only
  rw [stays]
  rfl

theorem State.applyIso_normal (normal : r.iso = false) : s.applyIso r = s := by
  unfold State.applyIso
  rw [normal]
  rfl

theorem State.takeReply_plain (free : r.releases = false) (normal : r.iso = false) : s.takeReply r =
    (((s.replyKept r).applyProving r (s.bay r.bay).returning).applyMotion r).applySensors r := by
  rw [State.takeReply_unreleased free, State.applyIso_normal normal]

theorem State.replyKept_length : (s.replyKept r).bays.length = s.bays.length := by
  obtain ⟨al, d, e, -⟩ := s.replyKept_parts r
  rw [e]
  exact State.setBay_length s _ _

include h1 h2

theorem State.replyKept_bay : (s.replyKept r).bay r.bay = Bay.keepReply r s.inStartup s.now (s.bay r.bay) := by
  obtain ⟨al, d, e, -⟩ := s.replyKept_parts r
  rw [State.bay_congr (congrArg State.bays e)]
  exact State.bay_setBay_self (s := s) _ h1 h2

/-- A deaf bay keeps what the proving class has made of it, sensor fields and last event apart. -/
theorem State.proven_deaf (deaf : s.Deaf r.bay) (moves : (s.bay r.bay).state ≠ some .closeWait) :
    (∃ x, (((s.applyMotion r).applySensors r).bay r.bay).unsensed =
      ({ s.bay r.bay with lastEvent := x } : Bay).unsensed) ∧
    ∀ k c, k ≠ .presenceStuck →
      ((s.applyMotion r).applySensors r).alarms.isActive k c = s.alarms.isActive k c := by
  obtain ⟨bays, x, e, length, bay⟩ := State.applyMotion_deaf h1 h2 deaf
  have long : r.bay ≤ (s.applyMotion r).bays.length := by
    rw [e]
    exact length.symm ▸ h2
  obtain ⟨_, al, _, sensed, -, alarms⟩ := State.sensed_parts r (s.applyMotion r)
  rw [State.applySensors_still h1 long (.inr (by rw [bay]; exact moves))]
  refine ⟨⟨x, (State.sensed_bay h1 long).1.trans (congrArg Bay.unsensed bay)⟩, fun k c other => ?_⟩
  rw [sensed]
  exact (alarms k c other).trans (by rw [e])

/-- CLOSING proven locked (R72, R101). -/
theorem State.lockClosing_bay {v : Speed} (state : (s.bay r.bay).state = some (.closing v)) :
    ((s.lockClosing r.bay).bay r.bay).state = some .locked ∧ ((s.lockClosing r.bay).bay r.bay).retry = 0 ∧
      ((s.lockClosing r.bay).bay r.bay).gap =
        if s.gapCheckDue r.bay then .pending else (s.bay r.bay).gap := by
  have record := State.enterState_record h1 h2 (st := .locked) nofun
  rw [state] at record
  unfold State.lockClosing
  dsimp only
  split
  · unfold State.startGap
    rw [State.bay_setBay_self _ h1 (by rw [State.enterState_length]; exact h2), record]
    exact ⟨rfl, rfl, rfl⟩
  · rw [record]
    exact ⟨rfl, rfl, rfl⟩

end

end Sys2Proof.Machine
end

section
/-!
PROOFS. The clauses of O49: a good reply by the state of its bay, its class and its event, and with a contact
(R68, R72, R73, R87, R91, R93, R94, R98, R101, R120, R126, R144).
-/
namespace Sys2Proof.Machine
open Sys2Proof

/-! ### The proving class (R89 to R94) -/

section
variable {s : State} {r : NodeReply}

theorem State.applyProving_locked (returned : Bool) (state : (s.bay r.bay).state = some .locked)
    (unproven : r.cls ≠ .provenLocked) : s.applyProving r returned =
      s.faultBay r.bay .unexpectedOpen .provingDiscrepant (some (.unexpectedOpen r.code)) := by
  unfold State.applyProving
  rw [state]
  exact if_neg unproven

theorem State.applyProving_closing (returned : Bool) {v : Speed} (state : (s.bay r.bay).state = some (.closing v)) :
    s.applyProving r returned = if r.cls = .provenLocked then s.lockClosing r.bay else s := by
  unfold State.applyProving
  rw [state]

theorem State.applyProving_lost (returned : Bool) (state : (s.bay r.bay).state = some (.fault .nodeLost)) :
    s.applyProving r returned = if returned && decide (r.cls = .provenLocked) && !r.iso then
      s.enterState r.bay .locked else s := by
  unfold State.applyProving
  rw [state]

theorem State.applyProving_test (returned : Bool) {x : Step} (state : (s.bay r.bay).state = some .test)
    (progress : (s.bay r.bay).progress = some x) :
    s.applyProving r returned = if stepProven x r then s.endStep r.bay .complete else s := by
  unfold State.applyProving
  rw [state]
  dsimp only
  rw [progress]

/-- The states the proving class leaves as they are. -/
theorem State.applyProving_idle (returned : Bool) (state : (s.bay r.bay).state = some .opening ∨
    (s.bay r.bay).state = some .closeWait ∨ (∃ m held, (s.bay r.bay).state = some (.reopening m held)) ∨
    (s.bay r.bay).state = some .released) : s.applyProving r returned = s := by
  unfold State.applyProving
  obtain state | state | ⟨m, held, state⟩ | state := state <;> rw [state]

/-- LOCKED or FAULT with ISO: proven locked it stays. -/
theorem State.applyProving_iso (returned : Bool) (proven : r.cls = .provenLocked) (iso : r.iso = true)
    (state : (s.bay r.bay).state = some .locked ∨ ∃ why, (s.bay r.bay).state = some (.fault why)) :
    s.applyProving r returned = s := by
  unfold State.applyProving
  obtain state | ⟨why, state⟩ := state
  · rw [state]
    exact if_pos proven
  · rw [state]
    cases why
    case nodeLost =>
      dsimp only
      rw [iso, Bool.not_true, Bool.and_false]
      rfl
    all_goals rfl

end

/-! ### The clauses without a contact -/

section
variable {s : State} {r : NodeReply} (h1 : 1 ≤ r.bay) (h2 : r.bay ≤ s.bays.length)
  (free : r.releases = false) (normal : r.iso = false)
include h1 h2

theorem State.replyKept_gapCheckDue : (s.replyKept r).gapCheckDue r.bay = s.gapCheckDue r.bay := by
  obtain ⟨al, d, e, -⟩ := s.replyKept_parts r
  have taker : ((s.replyKept r).bay r.bay).closeBy = (s.bay r.bay).closeBy := by
    rw [State.replyKept_bay h1 h2]
    rfl
  unfold State.gapCheckDue
  rw [taker, e]
  rfl

include free normal

/-- CLOSING proven locked (R72, R101). -/
theorem State.takeReply_locks {v : Speed} (state : (s.bay r.bay).state = some (.closing v))
    (proven : r.cls = .provenLocked) : ((s.takeReply r).bay r.bay).state = some .locked ∧
      ((s.takeReply r).bay r.bay).retry = 0 ∧ ((s.takeReply r).bay r.bay).gap =
        if s.gapCheckDue r.bay then .pending else (s.bay r.bay).gap := by
  have kept := State.replyKept_bay h1 h2
  have long : r.bay ≤ (s.replyKept r).bays.length := by rw [State.replyKept_length]; exact h2
  have same : ((s.replyKept r).bay r.bay).state = some (.closing v) := by rw [kept]; exact state
  obtain ⟨locked, retry, gap⟩ := State.lockClosing_bay h1 long same
  have length : r.bay ≤ ((s.replyKept r).lockClosing r.bay).bays.length := by
    rw [(State.lockClosing_hears h1 long).length]
    exact long
  rw [State.replyKept_gapCheckDue h1 h2, kept] at gap
  rw [State.takeReply_plain free normal, State.applyProving_closing _ same, if_pos proven]
  obtain ⟨⟨x, final⟩, -⟩ := State.proven_deaf (r := r) h1 length (State.deaf_of locked rfl) (by rw [locked]; nofun)
  exact ⟨(congrArg Bay.state final :).trans locked, (congrArg Bay.retry final :).trans retry,
    (congrArg Bay.gap final :).trans gap⟩

/-- LOCKED not proven locked (R91). -/
theorem State.takeReply_unexpected (state : (s.bay r.bay).state = some .locked) (unproven : r.cls ≠ .provenLocked) :
    ((s.takeReply r).bay r.bay).state = some (.fault .unexpectedOpen) ∧ (s.alarms.entries.length < 48 →
      (s.takeReply r).alarms.isActive .provingDiscrepant (some r.bay) = true) := by
  have kept := State.replyKept_bay h1 h2
  obtain ⟨al, d, e, entries, -⟩ := s.replyKept_parts r
  have long : r.bay ≤ (s.replyKept r).bays.length := by rw [State.replyKept_length]; exact h2
  have same : ((s.replyKept r).bay r.bay).state = some .locked := by rw [kept]; exact state
  have faulted : (((s.replyKept r).faultBay r.bay .unexpectedOpen .provingDiscrepant
      (some (.unexpectedOpen r.code))).bay r.bay).state = some (.fault .unexpectedOpen) :=
    State.enterState_state h1 long (.fault .unexpectedOpen)
  have active : s.alarms.entries.length < 48 → _ := fun few => State.faultBay_active (s := s.replyKept r)
    (.inl (by rw [e]; exact entries.symm ▸ few)) r.bay .unexpectedOpen (k := .provingDiscrepant)
    (some (.unexpectedOpen r.code)) rfl
  have length : r.bay ≤ ((s.replyKept r).faultBay r.bay .unexpectedOpen .provingDiscrepant
      (some (.unexpectedOpen r.code))).bays.length := by
    show r.bay ≤ ((s.replyKept r).enterState r.bay _).bays.length
    rw [State.enterState_length]
    exact long
  rw [State.takeReply_plain free normal, State.applyProving_locked _ same unproven]
  obtain ⟨⟨x, final⟩, alarms⟩ := State.proven_deaf (r := r) h1 length (State.deaf_of faulted rfl)
    (by rw [faulted]; nofun)
  exact ⟨(congrArg Bay.state final :).trans faulted, fun few => (alarms .provingDiscrepant _ nofun).trans (active few)⟩

/-- A lost node returns (R93). -/
theorem State.takeReply_returns (lost : (s.bay r.bay).lost = true)
    (state : (s.bay r.bay).state = some (.fault .nodeLost)) :
    (s.takeReply r).alarms.isActive .nodeLost (some r.bay) = false ∧
      (r.cls = .provenLocked → ((s.takeReply r).bay r.bay).state = some .locked ∧
        ((s.takeReply r).bay r.bay).retry = 0) ∧
      (r.cls ≠ .provenLocked → ((s.takeReply r).bay r.bay).state = some (.fault .nodeLost) ∧
        ((s.takeReply r).bay r.bay).discrepancyFrom = none ∧
        ((s.takeReply r).bay r.bay).recoveryFrom = none) := by
  have kept := State.replyKept_bay h1 h2
  obtain ⟨al, d, e, -, gone⟩ := s.replyKept_parts r
  have long : r.bay ≤ (s.replyKept r).bays.length := by rw [State.replyKept_length]; exact h2
  have same : ((s.replyKept r).bay r.bay).state = some (.fault .nodeLost) := by rw [kept]; exact state
  have cleared : (s.replyKept r).alarms.isActive .nodeLost (some r.bay) = false := by
    rw [e]
    exact gone lost
  have returning : (s.bay r.bay).returning = true := by
    unfold Bay.returning
    rw [lost, decide_eq_true state]
    rfl
  rw [State.takeReply_plain free normal, State.applyProving_lost _ same, returning, normal]
  by_cases proven : r.cls = .provenLocked
  · have record := State.enterState_record (s := s.replyKept r) h1 long (st := .locked) nofun
    have locked := State.enterState_state (s := s.replyKept r) h1 long .locked
    rw [if_pos (by rw [decide_eq_true proven]; rfl)]
    obtain ⟨⟨x, final⟩, alarms⟩ := State.proven_deaf (r := r) (s := (s.replyKept r).enterState r.bay .locked) h1
      (by rw [State.enterState_length]; exact long) (State.deaf_of locked rfl) (by rw [locked]; nofun)
    refine ⟨(alarms .nodeLost _ nofun).trans ((State.enterState_isActive _ rfl).trans cleared), fun _ =>
      ⟨(congrArg Bay.state final :).trans locked, (congrArg Bay.retry final :).trans ?_⟩, fun h => absurd proven h⟩
    exact (congrArg Bay.retry record).trans rfl
  · rw [if_neg (by rw [decide_eq_false proven]; nofun)]
    obtain ⟨⟨x, final⟩, alarms⟩ := State.proven_deaf (r := r) (s := s.replyKept r) h1 long (State.deaf_of same rfl)
      (by rw [same]; nofun)
    rw [kept] at final
    refine ⟨(alarms .nodeLost _ nofun).trans cleared, fun h => absurd h proven, fun _ =>
      ⟨(congrArg Bay.state final :).trans state, (congrArg Bay.discrepancyFrom final :).trans ?_,
        (congrArg Bay.recoveryFrom final :).trans ?_⟩⟩
    · exact if_pos returning
    · exact if_pos returning

/-- A clear doorway ends CLOSE_WAIT (R98). -/
theorem State.takeReply_clear (state : (s.bay r.bay).state = some .closeWait) (absent : r.presence = false) :
    ((s.takeReply r).bay r.bay).state = some (.closing .normal) ∧
      ((s.takeReply r).bay r.bay).timer = some s.now := by
  have kept := State.replyKept_bay h1 h2
  obtain ⟨al, d, e, -⟩ := s.replyKept_parts r
  have long : r.bay ≤ (s.replyKept r).bays.length := by rw [State.replyKept_length]; exact h2
  have same : ((s.replyKept r).bay r.bay).state = some .closeWait := by rw [kept]; exact state
  rw [State.takeReply_plain free normal, State.applyProving_idle _ (.inr (.inl same))]
  obtain ⟨bays, x, moved, length, bay⟩ := State.applyMotion_deaf (r := r) (s := s.replyKept r) h1 long
    (State.deaf_of same rfl)
  obtain ⟨closing, timer⟩ := State.applySensors_clear (r := r) (s := (s.replyKept r).applyMotion r) h1
    (by rw [moved]; exact length.symm ▸ long) absent (by rw [bay]; exact same)
  exact ⟨closing, timer.trans (by rw [moved, e])⟩

/-- An event that the bay hears, and that the proving class leaves to it: its effect, sensor fields apart. -/
theorem State.takeReply_event (event : r.event ≠ .noEvent) (fresh : (s.bay r.bay).lastEvent ≠ some r.eventNo)
    (idle : (s.replyKept r).applyProving r (s.bay r.bay).returning = s.replyKept r) {st : BayState}
    (reached : ((((s.replyKept r).setBay r.bay fun y => { y with lastEvent := some r.eventNo }).takeEvent r.bay
      r.event).bay r.bay).state = some st) (moves : st ≠ .closeWait) :
    ((s.takeReply r).bay r.bay).unsensed =
      ((((s.replyKept r).setBay r.bay fun y => { y with lastEvent := some r.eventNo }).takeEvent r.bay
        r.event).bay r.bay).unsensed := by
  have kept := State.replyKept_bay h1 h2
  have long : r.bay ≤ (s.replyKept r).bays.length := by rw [State.replyKept_length]; exact h2
  have noted : r.bay ≤ ((s.replyKept r).setBay r.bay fun y => { y with lastEvent := some r.eventNo }).bays.length := by
    rw [State.setBay_length]
    exact long
  have length : r.bay ≤ (((s.replyKept r).setBay r.bay fun y => { y with lastEvent := some r.eventNo }).takeEvent
      r.bay r.event).bays.length := by
    rw [(State.takeEvent_hears h1 noted r.event).length]
    exact noted
  rw [State.takeReply_plain free normal, idle,
    State.applyMotion_accepted event (by rw [kept]; exact fresh),
    State.applySensors_still h1 length (.inr (by rw [reached]; exact fun h => moves (Option.some.inj h)))]
  exact (State.sensed_bay h1 length).1

end

/-! ### What a motion event does (R68, R73, R94) -/

section
variable {s : State} {b : Nat} (h1 : 1 ≤ b) (h2 : b ≤ s.bays.length)
include h1 h2

theorem State.takeEvent_reached (state : (s.bay b).state = some .opening) :
    ((s.takeEvent b .reachedOpen).bay b).state = some .opened ∧ ((s.takeEvent b .reachedOpen).bay b).cycled = true ∧
      ((s.takeEvent b .reachedOpen).bay b).lastEvent = (s.bay b).lastEvent := by
  have effect : s.takeEvent b .reachedOpen = s.enterState b .opened := by
    unfold State.takeEvent
    rw [state]
  obtain ⟨y, e, core, -, entered⟩ := State.enterState_bay h1 h2 .opened
  have opening : y.state = some .opening := (congrArg Bay.state core :).trans state
  rw [effect, entered]
  refine ⟨rfl, ?_, (congrArg Bay.lastEvent core :)⟩
  show (y.cycled || (y.state == some .opening && BayState.opened == .opened)) = true
  rw [opening]
  exact Bool.or_true _

/-- A bay marked obstructed that enters a state in which it is held or reopens. -/
theorem State.enterObstructed {st : BayState} (notOpen : st ≠ .opened) :
    (((s.setBay b fun y => { y with obstructed := true }).enterState b st).bay b).state = some st ∧
      (((s.setBay b fun y => { y with obstructed := true }).enterState b st).bay b).obstructed = true ∧
      (((s.setBay b fun y => { y with obstructed := true }).enterState b st).bay b).timer =
        if st.hasTimer then some s.now else none := by
  have length : b ≤ (s.setBay b fun y => { y with obstructed := true }).bays.length := by
    rw [State.setBay_length]
    exact h2
  rw [State.enterState_record h1 length notOpen, State.bay_setBay_self _ h1 h2]
  exact ⟨rfl, rfl, rfl⟩

theorem State.takeEvent_blocked
    (state : (s.bay b).state = some .opening ∨ ∃ held, (s.bay b).state = some (.reopening .full held)) :
    ((s.takeEvent b .obstructedOpening).bay b).state = some (.held .openingBlocked) ∧
      ((s.takeEvent b .obstructedOpening).bay b).obstructed = true := by
  have effect : s.takeEvent b .obstructedOpening =
      (s.setBay b fun y => { y with obstructed := true }).enterState b (.held .openingBlocked) := by
    unfold State.takeEvent
    obtain state | ⟨held, state⟩ := state <;> rw [state]
  obtain ⟨held, obstructed, -⟩ := State.enterObstructed h1 h2 (st := .held .openingBlocked) nofun
  rw [effect]
  exact ⟨held, obstructed⟩

theorem State.takeEvent_reopens {v : Speed} (state : (s.bay b).state = some (.closing v)) :
    ((s.takeEvent b .obstructedClosing).bay b).state = some (if s.isServed b = true ∧ (s.berth.phase = .opening ∨
        s.berth.phase = .opened ∨ s.berth.phase = .closing) then .reopening .full false
        else .reopening .standing true) ∧
      ((s.takeEvent b .obstructedClosing).bay b).obstructed = true ∧
      ((s.takeEvent b .obstructedClosing).bay b).timer = some s.now := by
  have effect : s.takeEvent b .obstructedClosing = s.obstructClosing b := by
    unfold State.takeEvent
    rw [state]
  have which : (if (s.isServed b && decide (s.berth.phase = .opening ∨ s.berth.phase = .opened ∨
      s.berth.phase = .closing)) = true then BayState.reopening .full false else .reopening .standing true) =
      if s.isServed b = true ∧ (s.berth.phase = .opening ∨ s.berth.phase = .opened ∨ s.berth.phase = .closing) then
        .reopening .full false else .reopening .standing true :=
    ite_of_iff (by rw [Bool.and_eq_true, decide_eq_true_iff]) rfl
  rw [effect]
  unfold State.obstructClosing
  dsimp only
  rw [which]
  split
  · exact State.enterObstructed h1 h2 (st := .reopening .full false) nofun
  · exact State.enterObstructed h1 h2 (st := .reopening .standing true) nofun

theorem State.takeEvent_completes {p : StepPosition} {since : Millis} {last : Option StepResult}
    (state : (s.bay b).state = some .test) (step : (s.bay b).step = some ⟨p, some (.opening, since), last⟩) :
    ((s.takeEvent b .reachedOpen).bay b).state = some .test ∧
      ((s.takeEvent b .reachedOpen).bay b).step = some ⟨.opened, none, some .complete⟩ := by
  have progress : (s.bay b).progress = some .opening := by
    unfold Bay.progress
    rw [step]
  have effect : s.takeEvent b .reachedOpen = s.endStep b .complete := by
    unfold State.takeEvent
    rw [state]
    exact if_pos progress
  rw [effect, State.endStep_running h1 h2 step]
  exact ⟨state, rfl⟩

end

/-! ### The events of a reply without a contact -/

section
variable {s : State} {r : NodeReply} (h1 : 1 ≤ r.bay) (h2 : r.bay ≤ s.bays.length)
  (free : r.releases = false) (normal : r.iso = false)

/-- The state in which a motion event acts: the reply kept, its event number noted. -/
def State.eventNoted (r : NodeReply) (s : State) : State :=
  (s.replyKept r).setBay r.bay fun y => { y with lastEvent := some r.eventNo }

theorem State.eventNoted_length : (s.eventNoted r).bays.length = s.bays.length :=
  (State.setBay_length _ _ _).trans State.replyKept_length

include h1 h2

theorem State.eventNoted_bay : (s.eventNoted r).bay r.bay =
    { Bay.keepReply r s.inStartup s.now (s.bay r.bay) with lastEvent := some r.eventNo } := by
  have noted := State.bay_setBay_self (s := s.replyKept r) (fun y : Bay => { y with lastEvent := some r.eventNo })
    h1 (by rw [State.replyKept_length]; exact h2)
  rw [State.replyKept_bay h1 h2] at noted
  exact noted

include free normal

/-- REACHED_OPEN opens an OPENING bay (R68). -/
theorem State.takeReply_opens (state : (s.bay r.bay).state = some .opening) (event : r.event = .reachedOpen)
    (fresh : (s.bay r.bay).lastEvent ≠ some r.eventNo) : ((s.takeReply r).bay r.bay).state = some .opened ∧
      ((s.takeReply r).bay r.bay).cycled = true ∧
      ((s.takeReply r).bay r.bay).lastEvent = some r.eventNo := by
  have noted := State.eventNoted_bay h1 h2
  have kept : ((s.replyKept r).bay r.bay).state = some .opening := by
    rw [State.replyKept_bay h1 h2]
    exact state
  obtain ⟨opened, cycled, number⟩ := State.takeEvent_reached (s := s.eventNoted r) h1
    (by rw [State.eventNoted_length]; exact h2) (by rw [noted]; exact state)
  rw [← event] at opened cycled number
  have final := State.takeReply_event h1 h2 free normal (by rw [event]; nofun) fresh
    (State.applyProving_idle _ (.inl kept)) opened nofun
  refine ⟨(congrArg Bay.state final :).trans opened, (congrArg Bay.cycled final :).trans cycled,
    (congrArg Bay.lastEvent final :).trans (number.trans ?_)⟩
  rw [noted]

/-- OBSTRUCTED_OPENING holds a bay that opens or reopens (R73). -/
theorem State.takeReply_holds (state : (s.bay r.bay).state = some .opening ∨
      (∃ held, (s.bay r.bay).state = some (.reopening .full held))) (event : r.event = .obstructedOpening)
    (fresh : (s.bay r.bay).lastEvent ≠ some r.eventNo) :
    ((s.takeReply r).bay r.bay).state = some (.held .openingBlocked) ∧
      ((s.takeReply r).bay r.bay).obstructed = true := by
  have noted := State.eventNoted_bay h1 h2
  have kept : ((s.replyKept r).bay r.bay).state = (s.bay r.bay).state := by
    rw [State.replyKept_bay h1 h2]
    rfl
  have idle : (s.replyKept r).applyProving r (s.bay r.bay).returning = s.replyKept r := by
    refine State.applyProving_idle _ ?_
    rw [kept]
    obtain state | ⟨held, state⟩ := state
    · exact .inl state
    · exact .inr (.inr (.inl ⟨_, _, state⟩))
  obtain ⟨held, obstructed⟩ := State.takeEvent_blocked (s := s.eventNoted r) h1
    (by rw [State.eventNoted_length]; exact h2) (by rw [noted]; exact state)
  rw [← event] at held obstructed
  have final := State.takeReply_event h1 h2 free normal (by rw [event]; nofun) fresh idle held nofun
  exact ⟨(congrArg Bay.state final :).trans held, (congrArg Bay.obstructed final :).trans obstructed⟩

/-- OBSTRUCTED_CLOSING reopens a CLOSING bay (R73). -/
theorem State.takeReply_reopens {v : Speed} (state : (s.bay r.bay).state = some (.closing v))
    (unproven : r.cls ≠ .provenLocked) (event : r.event = .obstructedClosing)
    (fresh : (s.bay r.bay).lastEvent ≠ some r.eventNo) :
    ((s.takeReply r).bay r.bay).state = some (if s.isServed r.bay = true ∧ (s.berth.phase = .opening ∨
        s.berth.phase = .opened ∨ s.berth.phase = .closing) then .reopening .full false
        else .reopening .standing true) ∧
      ((s.takeReply r).bay r.bay).obstructed = true ∧ ((s.takeReply r).bay r.bay).timer = some s.now := by
  have noted := State.eventNoted_bay h1 h2
  obtain ⟨al, d, e, -⟩ := s.replyKept_parts r
  have kept : ((s.replyKept r).bay r.bay).state = some (.closing v) := by
    rw [State.replyKept_bay h1 h2]
    exact state
  obtain ⟨reopens, obstructed, timer⟩ := State.takeEvent_reopens (s := s.eventNoted r) h1
    (by rw [State.eventNoted_length]; exact h2) (by rw [noted]; exact state)
  have served : (s.eventNoted r).isServed r.bay = s.isServed r.bay := by
    show (s.replyKept r).isServed r.bay = _
    rw [e]
    rfl
  have phase : (s.eventNoted r).berth.phase = s.berth.phase := by
    show (s.replyKept r).berth.phase = _
    rw [e]
  have clock : (s.eventNoted r).now = s.now := by
    show (s.replyKept r).now = _
    rw [e]
  rw [served, phase] at reopens
  rw [← event] at reopens obstructed timer
  have final := State.takeReply_event h1 h2 free normal (by rw [event]; nofun) fresh
    ((State.applyProving_closing _ kept).trans (if_neg unproven)) reopens (by split <;> nofun)
  exact ⟨(congrArg Bay.state final :).trans reopens, (congrArg Bay.obstructed final :).trans obstructed,
    (congrArg Bay.timer final :).trans (timer.trans (congrArg some clock))⟩

/-- The step in progress of a TEST bay completes, by its class or by its event (R94). -/
theorem State.takeReply_completes {p : StepPosition} {x : Step} {since : Millis} {last : Option StepResult}
    (state : (s.bay r.bay).state = some .test) (step : (s.bay r.bay).step = some ⟨p, some (x, since), last⟩)
    (proof : x = .unlock ∧ r.cls = .closedUnlocked ∨
      x = .opening ∧ r.event = .reachedOpen ∧ (s.bay r.bay).lastEvent ≠ some r.eventNo ∨
      x = .closing ∧ r.cls = .closedUnlocked ∧ r.leaf = 0 ∨ x = .locking ∧ r.cls = .provenLocked) :
    ((s.takeReply r).bay r.bay).state = some .test ∧
      ((s.takeReply r).bay r.bay).step = some ⟨x.after, none, some .complete⟩ := by
  have kept := State.replyKept_bay h1 h2
  have long : r.bay ≤ (s.replyKept r).bays.length := by rw [State.replyKept_length]; exact h2
  have same : ((s.replyKept r).bay r.bay).state = some .test := by rw [kept]; exact state
  have running : ((s.replyKept r).bay r.bay).step = some ⟨p, some (x, since), last⟩ := by rw [kept]; exact step
  have progress : ((s.replyKept r).bay r.bay).progress = some x := by
    unfold Bay.progress
    rw [running]
  have proving := State.applyProving_test (s.bay r.bay).returning same progress
  by_cases proven : stepProven x r = true
  · have ended := State.endStep_running h1 long running .complete
    rw [State.takeReply_plain free normal, proving, if_pos proven]
    obtain ⟨⟨n, final⟩, -⟩ := State.proven_deaf (r := r) (s := (s.replyKept r).endStep r.bay .complete) h1
      (by rw [State.endStep_length]; exact long)
      (State.deaf_of_test (by rw [ended]; exact same) (by rw [ended]; rfl)) (by rw [ended, same]; nofun)
    rw [ended] at final
    exact ⟨(congrArg Bay.state final :).trans same, (congrArg Bay.step final :)⟩
  · obtain ⟨rfl, event, fresh⟩ : x = .opening ∧ r.event = .reachedOpen ∧
        (s.bay r.bay).lastEvent ≠ some r.eventNo := by
      obtain ⟨rfl, cls⟩ | opening | ⟨rfl, cls, leaf⟩ | ⟨rfl, cls⟩ := proof
      · exact absurd (decide_eq_true cls) proven
      · exact opening
      · exact absurd (by unfold stepProven; rw [decide_eq_true cls, decide_eq_true leaf]; rfl) proven
      · exact absurd (decide_eq_true cls) proven
    have noted := State.eventNoted_bay h1 h2
    obtain ⟨tested, done⟩ := State.takeEvent_completes (s := s.eventNoted r) h1
      (by rw [State.eventNoted_length]; exact h2) (by rw [noted]; exact state) (by rw [noted]; exact step)
    rw [← event] at tested done
    have final := State.takeReply_event h1 h2 free normal (by rw [event]; nofun) fresh
      (proving.trans (if_neg proven)) tested nofun
    exact ⟨(congrArg Bay.state final :).trans tested, (congrArg Bay.step final :).trans done⟩

end

/-! ### ISO (R144) -/

/-- A pending isolation becomes effective by contact. -/
theorem State.takeReply_isolates {s : State} {r : NodeReply} (h1 : 1 ≤ r.bay) (h2 : r.bay ≤ s.bays.length)
    (free : r.releases = false) (iso : r.iso = true) (proven : r.cls = .provenLocked)
    (pending : (s.request r.bay).isSome = true)
    (state : (s.bay r.bay).state = some .locked ∨ ∃ why, (s.bay r.bay).state = some (.fault why)) :
    ((s.takeReply r).bay r.bay).state = some .isolated ∧
      ((s.takeReply r).bay r.bay).isolation = .byContact ∧
      (s.takeReply r).doors.requests = s.doors.requests.filter fun q => q.bay != r.bay := by
  have kept := State.replyKept_bay h1 h2
  obtain ⟨al, d, e, -⟩ := s.replyKept_parts r
  have long : r.bay ≤ (s.replyKept r).bays.length := by rw [State.replyKept_length]; exact h2
  have same : ((s.replyKept r).bay r.bay).state = (s.bay r.bay).state := by rw [kept]; rfl
  have deaf : (s.replyKept r).Deaf r.bay := by
    obtain state | ⟨why, state⟩ := state
    · exact State.deaf_of (same.trans state) rfl
    · exact State.deaf_of (same.trans state) rfl
  obtain ⟨bays, x, moved, length, bay⟩ := State.applyMotion_deaf (r := r) h1 long deaf
  have stood : (((s.replyKept r).applyMotion r).bay r.bay).state = (s.bay r.bay).state := by
    rw [bay]
    exact same
  have asked : ((s.replyKept r).applyMotion r).request r.bay = s.request r.bay := by
    rw [moved, e]
    rfl
  have requests : ((s.replyKept r).applyMotion r).doors.requests = s.doors.requests := by rw [moved, e]
  have reach : r.bay ≤ ((s.replyKept r).applyMotion r).bays.length := by
    rw [moved]
    exact length.symm ▸ long
  have isolates : ((s.replyKept r).applyMotion r).applyIso r =
      ((s.replyKept r).applyMotion r).isolate r.bay .byContact := by
    have takes : ((s.replyKept r).applyMotion r).bayIs r.bay (fun x => x == .locked || x.isFault) = true := by
      obtain state | ⟨why, state⟩ := state <;> rw [State.bayIs_of (stood.trans state)] <;> rfl
    unfold State.applyIso
    rw [iso, decide_eq_true proven, asked, pending, takes]
    rfl
  have record := State.isolate_bay h1 reach .byContact
  rw [State.takeReply_unreleased free, State.applyProving_iso _ proven iso (by rw [same]; exact state), isolates]
  have list := congrArg DoorState.requests (((s.replyKept r).applyMotion r).isolate_requests r.bay .byContact)
  have last : r.bay ≤ (((s.replyKept r).applyMotion r).isolate r.bay .byContact).bays.length := by
    rw [(Stable.length { bay := fun _ => True } _ id).isolate .byContact (b := r.bay) trivial rfl]
    exact reach
  generalize ((s.replyKept r).applyMotion r).isolate r.bay .byContact = u at record list last
  obtain ⟨_, _, _, sensed, -⟩ := State.sensed_parts r u
  have final := (State.sensed_bay h1 last).1
  rw [State.applySensors_still h1 last (.inr (by rw [record]; nofun))]
  rw [record] at final
  refine ⟨(congrArg Bay.state final :), (congrArg Bay.isolation final :), ?_⟩
  rw [sensed, ← requests]
  exact list

/-! ### A release contact (R120, R126) -/

theorem insertRelease_mem (b : Nat) (c : ReleaseContact) (xs : List (Nat × ReleaseContact)) :
    b ∈ (insertRelease b c xs).map (·.1) := by
  induction xs with
  | nil => exact List.mem_singleton.2 rfl
  | cons x xs ih =>
    unfold insertRelease
    split
    · exact List.mem_cons_self
    · split
      · exact List.mem_cons_self
      · exact List.mem_cons_of_mem _ ih

/-- The bay has joined the cause set, and the mode stands. -/
theorem State.joinRelease_emer (s : State) (b : Nat) (c : ReleaseContact) :
    (s.joinRelease b c).emer = { s.emer with released := insertRelease b c s.emer.released } ∧
      (s.joinRelease b c).mode = s.mode := by
  have only : State.OnlyBays (· = b) { s with
      emer := { s.emer with released := insertRelease b c s.emer.released } } (s.joinRelease b c) := by
    have stable := Stable.onlyBays (· = b) { s with
      emer := { s.emer with released := insertRelease b c s.emer.released } }
    have entered : State.OnlyBays (· = b) { s with
        emer := { s.emer with released := insertRelease b c s.emer.released } }
        { s.setBay b (Bay.enter .released s.now) with
          emer := { s.emer with released := insertRelease b c s.emer.released } } :=
      ⟨rfl, rfl, rfl, rfl, fun _ other => State.bay_setBay_ne _ other⟩
    exact stable.leaveState _ _ rfl (stable.handOn b .released (stable.notice _ (stable.flagStatus s.noCause
      (stable.raise .bayReleased (some b) (some (.contact c)) entered))))
  exact ⟨congrArg Setting.emer only.setting, congrArg Setting.mode only.setting⟩

/-- A release enters EMERGENCY where the cause set was empty. -/
theorem State.releaseBay_emer (s : State) (b : Nat) (c : ReleaseContact) :
    (s.releaseBay b c).emer.released = insertRelease b c s.emer.released ∧
      (s.noCause = true → s.mode ≠ .configFault → s.mode ≠ .startup → (s.releaseBay b c).mode = .emergency) := by
  obtain ⟨emer, mode⟩ := s.joinRelease_emer b c
  unfold State.releaseBay
  dsimp only
  cases first : s.noCause with
  | false =>
    rw [if_neg Bool.false_ne_true]
    exact ⟨congrArg EmergencyState.released emer, nofun⟩
  | true =>
    rw [if_pos rfl]
    unfold State.settlePhase
    obtain ⟨x, d, moved⟩ := (s.joinRelease b c).setPhase_parts (s.joinRelease b c).settledPhase
    rw [moved]
    generalize (s.joinRelease b c).settledPhase = p
    generalize s.joinRelease b c = t at emer mode
    by_cases enters : s.mode = .normal ∨ s.mode = .localMode ∨ s.mode = .commissioning
    · obtain ⟨o, d', entered⟩ := State.enterEmergency_parts (s := { t with
        berth := { t.berth with phase := p, clearFrom := x }, send := d }) (by rw [← mode] at enters; exact enters)
      rw [entered]
      exact ⟨congrArg EmergencyState.released emer, fun _ _ _ => rfl⟩
    · have out : s.mode = .startup ∨ s.mode = .configFault ∨ s.mode = .emergency := by
        cases m : s.mode <;> simp_all
      rw [State.enterEmergency_out (s := { t with
        berth := { t.berth with phase := p, clearFrom := x }, send := d }) (by rw [← mode] at out; exact out)]
      refine ⟨congrArg EmergencyState.released emer, fun _ config startup => mode.trans ?_⟩
      exact (out.resolve_left startup).resolve_left config

theorem State.releaseBay_state {s : State} {b : Nat} (h1 : 1 ≤ b) (h2 : b ≤ s.bays.length) (c : ReleaseContact) :
    ((s.releaseBay b c).bay b).state = some .released := by
  have released := State.joinRelease_state h1 h2 c
  unfold State.releaseBay
  dsimp only
  split
  · have stable := Stable.sameBays (s.joinRelease b c).bays
    exact (congrArg Bay.state (State.bay_congr
      (stable.enterEmergency trivial trivial (stable.setPhase _ rfl)) b)).trans released
  · exact released

/-- A bay not yet RELEASED is released by its contact, and what follows in the reply leaves it so. -/
theorem State.takeReply_releases {s : State} {r : NodeReply} (h1 : 1 ≤ r.bay) (h2 : r.bay ≤ s.bays.length)
    (startup : s.mode ≠ .startup) (contact : r.releases = true) (fresh : (s.bay r.bay).state ≠ some .released) :
    ((s.takeReply r).bay r.bay).state = some .released ∧ r.bay ∈ (s.takeReply r).emer.released.map (·.1) ∧
      (s.noCause = true → s.mode ≠ .configFault → (s.takeReply r).mode = .emergency) := by
  obtain ⟨al, d, kept, -⟩ := s.keepReply_parts r
  have record := State.keepReply_bay h1 h2
  have long : r.bay ≤ (s.keepReply r).bays.length := by rw [State.keepReply_length]; exact h2
  have releases : (s.keepReply r).applyRelease r = (s.keepReply r).releaseBay r.bay r.contact := by
    have running : (s.keepReply r).inStartup = false := decide_eq_false (by rw [kept]; exact startup)
    have other : (s.keepReply r).bayIs r.bay (· == .released) = false := Bool.eq_false_iff.2 fun h => by
      obtain ⟨st, state, is⟩ := State.bayIs_iff.1 h
      rw [record] at state
      exact fresh (state.trans (congrArg some (beq_iff_eq.1 is)))
    unfold State.applyRelease
    rw [contact, running, other]
    rfl
  obtain ⟨joined, entered⟩ := (s.keepReply r).releaseBay_emer r.bay r.contact
  have released := State.releaseBay_state h1 long r.contact
  have length := (State.Hears.releaseBay h1 long r.contact).length
  unfold State.takeReply
  dsimp only
  rw [releases]
  generalize (s.keepReply r).releaseBay r.bay r.contact = u at joined entered released length
  obtain ⟨al', d', ended, -⟩ := State.endDiscrepancy_parts r u
  have still : ((u.endDiscrepancy r).bay r.bay).state = some .released := by
    rw [State.bay_congr (congrArg State.bays ended)]
    exact released
  have reach : r.bay ≤ (u.endDiscrepancy r).bays.length := by
    rw [ended]
    exact length.symm ▸ long
  have emer : (u.endDiscrepancy r).emer = u.emer ∧ (u.endDiscrepancy r).mode = u.mode := by rw [ended]; exact ⟨rfl, rfl⟩
  rw [State.applyProving_idle _ (.inr (.inr (.inr still)))]
  generalize u.endDiscrepancy r = v at still reach emer
  obtain ⟨bays, x, moved, l, bay⟩ := State.applyMotion_deaf (r := r) h1 reach (State.deaf_of still rfl)
  have unmoved : ((v.applyMotion r).bay r.bay).state = some .released := by rw [bay]; exact still
  have apart : (v.applyMotion r).applyIso r = v.applyMotion r := by
    unfold State.applyIso
    rw [State.bayIs_of unmoved]
    exact if_neg (by rw [Bool.and_eq_true]; nofun)
  have reach' : r.bay ≤ (v.applyMotion r).bays.length := by
    rw [moved]
    exact l.symm ▸ reach
  obtain ⟨_, _, _, sensed, -⟩ := State.sensed_parts r (v.applyMotion r)
  have final := (State.sensed_bay h1 reach').1
  rw [apart, State.applySensors_still h1 reach' (.inr (by rw [unmoved]; nofun))]
  refine ⟨(congrArg Bay.state final :).trans unmoved, ?_, fun first config => ?_⟩
  · rw [sensed, moved]
    show r.bay ∈ v.emer.released.map (·.1)
    rw [emer.1, joined]
    exact insertRelease_mem _ _ _
  · rw [sensed, moved]
    refine emer.2.trans (entered ?_ ?_ ?_) <;> rw [kept]
    · exact first
    · exact config
    · exact startup

/-! ### The whole reply -/

/-- What one bay, the emergency state and the mode alone may lose. -/
theorem Stable.bayAndBus (b : Nat) (x : BusState) (s : State) :
    Stable { bay := (· = b), emer := True, mode := True, secure := True }
      fun t => t.bus = x ∧ ∀ c, c ≠ b → t.bay c = s.bay c where
  send _ _ h := h
  bay _ f touched h := ⟨h.1, fun d other =>
    (State.bay_setBay_ne f fun e => other (e.trans touched)).trans (h.2 d other)⟩
  bays _ all _ h := ⟨h.1, fun d other => absurd (all d) other⟩
  record _ _ h := h
  phase _ _ h := h
  berth _ h := h.elim
  queue _ h := h.elim
  operation _ h := h
  removal _ h := h
  doors _ h := h.elim
  alarm _ _ _ h := h
  cleared _ h := h
  sense _ h := h.elim
  emer _ _ h := h
  mode _ _ h := h
  link _ h := h.elim
  bus _ h := h.elim
  secure _ _ h := h
  store _ h := h.elim
  startup _ h := h.elim

/-- A reply ends the poll and reaches no other bay. -/
theorem State.takeReply_apart (s : State) (r : NodeReply) : (s.takeReply r).bus = { s.bus with awaiting := none } ∧
    ∀ c, c ≠ r.bay → (s.takeReply r).bay c = s.bay c := by
  obtain ⟨al, d, kept, -⟩ := s.keepReply_parts r
  have stable := Stable.bayAndBus r.bay { s.bus with awaiting := none } s
  refine stable.applySensors r rfl (stable.applyIso r rfl (stable.applyMotion r rfl (stable.applyProving r _ rfl
    (stable.endDiscrepancy r (stable.applyRelease r rfl trivial trivial ⟨?_, fun c other => ?_⟩)))))
  · rw [kept]
  · rw [State.bay_congr (congrArg State.bays kept)]
    exact State.bay_setBay_ne (s := s) _ other

/-- A reply without a release contact leaves mode and emergency state. -/
theorem State.takeReply_setting {s : State} {r : NodeReply} (free : r.releases = false) :
    (s.takeReply r).mode = s.mode ∧ (s.takeReply r).emer = s.emer := by
  obtain ⟨al, d, kept, -⟩ := s.replyKept_parts r
  have stable := Stable.onlyBays (· = r.bay) (s.replyKept r)
  have only : State.OnlyBays (· = r.bay) (s.replyKept r) (s.takeReply r) := by
    rw [State.takeReply_unreleased free]
    exact stable.applySensors r rfl (stable.applyIso r rfl (stable.applyMotion r rfl
      (stable.applyProving r _ rfl (State.OnlyBays.refl _ _))))
  exact ⟨(congrArg Setting.mode only.setting).trans (by rw [kept]; rfl),
    (congrArg Setting.emer only.setting).trans (by rw [kept]; rfl)⟩

/-- Settles O49: the record of the bay after the reply, which the end of the command leaves. -/
theorem aGoodReplyActsOnItsBay : Obligations.AGoodReplyActsOnItsBay := by
  unfold Obligations.AGoodReplyActsOnItsBay
  intro s r inv shaped powered startup awaiting inTable high
  have low := State.inTable_low inTable
  have within : r.bay ≤ s.begin_.bays.length := by
    rw [State.begin_bays, shaped]
    exact high
  have effect : s.begin_.nodeReply r = s.begin_.takeReply r := if_pos awaiting
  refine ⟨_, exec_event _ powered, ?_⟩
  rw [effect]
  obtain ⟨bus, apart⟩ := s.begin_.takeReply_apart r
  obtain ⟨heard, presence⟩ := State.takeReply_heard low within
  have entries : s.begin_.alarms.entries.length = s.alarms.entries.length := rfl
  simp only [State.finish_bay, State.finish_bus, State.finish_mode, State.finish_emer, State.finish_doors]
  refine ⟨bus, (congrArg Prod.fst heard :), (congrArg (·.2.1) heard :), (congrArg (·.2.2.1) heard :),
    (congrArg (·.2.2.2) heard :), presence, apart, fun free normal => ?_, fun free iso proven pending state => ?_,
    fun contact fresh => State.takeReply_releases low within startup contact fresh⟩
  · obtain ⟨mode, emer⟩ := State.takeReply_setting (s := s.begin_) free
    refine ⟨mode, emer, fun v state proven => State.takeReply_locks low within free normal state proven,
      fun state unproven => ?_, fun state event fresh => State.takeReply_opens low within free normal state event fresh,
      fun state event fresh => State.takeReply_holds low within free normal state event fresh,
      fun v state unproven event fresh =>
        State.takeReply_reopens low within free normal state unproven event fresh,
      fun state absent => State.takeReply_clear low within free normal state absent,
      fun p x since last state step proof => State.takeReply_completes low within free normal state step proof,
      fun lost state => ?_⟩
    · obtain ⟨fault, alarm⟩ := State.takeReply_unexpected low within free normal state unproven
      exact ⟨fault, fun few => (State.finish_hasActive _ (k := .provingDiscrepant) _ nofun).trans (alarm few)⟩
    · obtain ⟨gone, returned, stays⟩ := State.takeReply_returns low within free normal lost state
      exact ⟨(State.finish_hasActive _ (k := .nodeLost) _ nofun).trans gone, returned, stays⟩
  · obtain ⟨mode, emer⟩ := State.takeReply_setting (s := s.begin_) free
    exact ⟨mode, emer, State.takeReply_isolates low within free iso proven pending state⟩

end Sys2Proof.Machine
end

section
/-!
PROOFS. The end of a load (R12, R13, R27, R134, R149, R170, R171): the content, the reconciliation of each bay
with the isolations and the causes that follow from it, and the phase and the mode.
-/
namespace Sys2Proof.Machine
open Sys2Proof

/-! ### The content (R12, R13) -/

/-- Content and zones leave the reconciliation result of a bay and its isolation. -/
theorem Bay.takeZone_abandonTimer (z : Bool) (n : Millis) (y : Bay) :
    (y.abandonTimer.takeZone z n).recon = y.recon ∧ (y.abandonTimer.takeZone z n).isolation = y.isolation := by
  obtain ⟨same, -⟩ := y.abandonTimer.takeZone_unsensed z n
  exact ⟨(congrArg Bay.recon same :), (congrArg Bay.isolation same :)⟩

section
variable {s : State} {c : Option Content} {n : Nat}

theorem State.takeContent_parts : ∃ bays, s.takeContent c n = { s with
    store := { s.store with inForce := c }, doors := { s.doors with count := n }, bays := bays } ∧
    bays.length = s.bays.length := by
  refine State.forBays_keeps (P := fun t => ∃ bays, t = { s with
    store := { s.store with inForce := c }, doors := { s.doors with count := n }, bays := bays } ∧
    bays.length = s.bays.length) (fun b _ t ⟨bays, same, length⟩ => ?_) ⟨_, rfl, ?_⟩
  · subst same
    exact ⟨_, rfl, (State.setBay_length _ _ _).trans length⟩
  · rw [List.length_append, List.length_map, ← List.length_append, List.take_append_drop]

/-- A bay of the new table keeps its reconciliation result and its isolation. -/
theorem State.takeContent_bay {b : Nat} (h1 : 1 ≤ b) (hn : b ≤ n) (h2 : n ≤ s.bays.length) :
    ((s.takeContent c n).bay b).recon = (s.bay b).recon ∧
      ((s.takeContent c n).bay b).isolation = (s.bay b).isolation := by
  refine State.forBays_keeps (P := fun t => (t.bay b).recon = (s.bay b).recon ∧
    (t.bay b).isolation = (s.bay b).isolation) (fun a _ t ⟨recon, isolation⟩ => ?_) ?_
  · obtain ⟨recon', isolation'⟩ := Bay.takeZone_abandonTimer (t.zoneTaken a (t.bay a).lastZone) t.now (t.bay a)
    exact ⟨(State.bay_setBay_field Bay.recon a _ recon' b).trans recon,
      (State.bay_setBay_field Bay.isolation a _ isolation' b).trans isolation⟩
  · have same : (s.bays.take n ++ (s.bays.drop n).map fun _ => Bay.blank s.now).getD (b - 1) (Bay.blank 0) =
        s.bays.getD (b - 1) (Bay.blank 0) := by
      rw [getD_append_left _ _ _ (by rw [List.length_take]; omega)]
      simp only [List.getD, List.getElem?_take]
      rw [if_pos (by omega)]
    unfold State.bay
    simp only [same, and_self]

end

/-! ### Reconciliation (R170, R171) -/

section
variable {s : State} {b : Nat} (h1 : 1 ≤ b) (h2 : b ≤ s.bays.length)
include h1 h2

theorem State.enterState_recon (st : BayState) : ((s.enterState b st).bay b).recon = (s.bay b).recon := by
  obtain ⟨y, e, core, -, entered⟩ := State.enterState_bay h1 h2 st
  rw [entered]
  exact (congrArg Bay.recon core :)

/-- No state a bay enters isolates it. -/
theorem State.enterState_notIsolated {st : BayState} (notOpen : st ≠ .opened)
    (free : (s.bay b).isolation = .notIsolated) : ((s.enterState b st).bay b).isolation = .notIsolated := by
  rw [State.enterState_record h1 h2 notOpen]
  simp only [Bay.enter, Bay.leave, free, ite_self]

end

/-- The reconciliation of a load: each bay enters a state or stands, and one not isolated whose result is `v`
enters `st`. -/
structure Reconciles (f : Nat → State → State) (v : Recon) (st : BayState) : Prop where
  only : ∀ b s, State.OnlyBays (· = b) s (f b s)
  length : ∀ b s, (f b s).bays.length = s.bays.length
  record : ∀ b s, (f b s).bay b = s.bay b ∨ ∃ x, (f b s).bay b = (s.enterState b x).bay b
  settles : ∀ b s, (s.bay b).isolation = .notIsolated → (s.bay b).recon = some v →
    (f b s).bay b = (s.enterState b st).bay b

/-- What the failed load makes of a bay with a reply of class `c`, and the successful one of one proven. -/
def ProvingClass.loadState (c : ProvingClass) : BayState :=
  if c = .provenLocked then .locked else .fault .unexpectedOpen

/-- What each load makes of a bay without an isolation, by its result. -/
theorem Reconciles.reconcile {v : Recon} {st : BayState}
    (result : (v = .lost ∧ st = .fault .nodeLost) ∨ ∃ r, v = .reply r .provenLocked ∧ st = .locked) :
    Reconciles State.reconcile v st where
  only b s := (Stable.onlyBays (· = b) s).reconcile rfl (.refl _ s)
  length b s := (Stable.length { bay := fun _ => True } s.bays.length id).reconcile trivial rfl
  record b s := by
    unfold State.reconcile
    dsimp only
    split
    · exact .inl rfl
    · split <;> first | exact .inl rfl | exact .inr ⟨_, rfl⟩
  settles b s free recon := by
    unfold State.reconcile
    dsimp only
    rw [free, if_neg (show ¬ Isolation.isEffective .notIsolated = true from nofun), recon]
    obtain ⟨rfl, rfl⟩ | ⟨r, rfl, rfl⟩ := result <;> rfl

theorem Reconciles.reconcileFailed {v : Recon} {st : BayState}
    (result : (v = .lost ∧ st = .fault .nodeLost) ∨ ∃ r c, v = .reply r c ∧ st = c.loadState) :
    Reconciles State.reconcileFailed v st where
  only b s := (Stable.onlyBays (· = b) s).reconcileFailed rfl (.refl _ s)
  length b s := (Stable.length { bay := fun _ => True } s.bays.length id).reconcileFailed trivial rfl
  record b s := by
    unfold State.reconcileFailed
    dsimp only
    split
    · exact .inl rfl
    · split <;> first | exact .inl rfl | exact .inr ⟨_, rfl⟩
  settles b s free recon := by
    unfold State.reconcileFailed
    dsimp only
    rw [free, if_neg (show ¬ Isolation.isEffective .notIsolated = true from nofun), recon]
    obtain ⟨rfl, rfl⟩ | ⟨r, c, rfl, rfl⟩ := result
    · rfl
    · cases c <;> rfl

/-! ### Isolations (R149) -/

section
variable {contacts : Bool} {limit b : Nat}

/-- A bay that is not to be isolated stands. -/
theorem setIsolations_other {bs : List Nat} {n : Nat} {s : State}
    (free : (s.bay b).toIsolate contacts = false) :
    (setIsolations contacts limit n bs s).bay b = s.bay b := by
  induction bs generalizing n s with
  | nil => rfl
  | cons x xs ih =>
    unfold setIsolations
    dsimp only
    split
    · rename_i isolates
      have other : b ≠ x := fun e => by
        subst e
        cases free.symm.trans isolates
      have entered : ∀ st f, ((s.enterState x st).setBay x f).bay b = s.bay b := fun st f =>
        (State.bay_setBay_ne f other).trans (State.enterState_ne s st other)
      split
      · exact (ih (by rw [entered]; exact free)).trans (entered _ _)
      · exact (ih (by rw [State.bay_congr (State.raise_bays _ _ _ _), entered]; exact free)).trans (entered _ _)
    · exact ih free

/-- The isolations leave the reconciliation result of every bay. -/
theorem setIsolations_recon (h1 : 1 ≤ b) {bs : List Nat} {n : Nat} {s : State} (h2 : b ≤ s.bays.length) :
    ((setIsolations contacts limit n bs s).bay b).recon = (s.bay b).recon := by
  induction bs generalizing n s with
  | nil => rfl
  | cons x xs ih =>
    have entered : ∀ st f, (∀ y : Bay, (f y).recon = y.recon) →
        (((s.enterState x st).setBay x f).bay b).recon = (s.bay b).recon := fun st f keeps => by
      refine (State.bay_setBay_field Bay.recon x f (keeps _) b).trans ?_
      by_cases same : b = x
      · subst same
        exact State.enterState_recon h1 h2 st
      · rw [State.enterState_ne s st same]
    have long : ∀ st f, b ≤ ((s.enterState x st).setBay x f).bays.length := fun st f => by
      rw [State.setBay_length, State.enterState_length]
      exact h2
    unfold setIsolations
    dsimp only
    split
    · split
      · exact (ih (long _ _)).trans (entered _ _ fun _ => rfl)
      · exact (ih (by rw [State.raise_bays]; exact long _ _)).trans (entered _ _ fun _ => rfl)
    · exact ih h2

end

/-! ### The cause set (R134) -/

/-- The release contact that reconciliation found at bay `b` joins the cause set. -/
def State.rebuildCause (b : Nat) (s : State) : State :=
  match (s.bay b).reconReply with
  | some r => if r.releases then s.joinRelease b r.contact else s
  | none => s

/-- EVACUATION joins the cause set where its line is asserted. -/
def State.rebuildEvacuation (s : State) : State := if s.lines.evac then s.joinEvacuation else s

theorem State.rebuildCauses_eq (s : State) : s.rebuildCauses =
    s.rebuildEvacuation.forBays s.rebuildEvacuation.tableBays State.rebuildCause := rfl

/-- The bay shows a release contact at the load. -/
def Bay.showsRelease (y : Bay) : Bool := y.reconReply.any NodeReply.releases

section
variable {s : State} {b : Nat}

theorem State.rebuildCause_stands (quiet : (s.bay b).showsRelease = false) : s.rebuildCause b = s := by
  unfold State.rebuildCause
  unfold Bay.showsRelease at quiet
  cases reply : (s.bay b).reconReply with
  | none => rfl
  | some r =>
    rw [reply] at quiet
    exact if_neg (by rw [show r.releases = false from quiet]; nofun)

theorem State.rebuildCause_joins (shows : (s.bay b).showsRelease = true) :
    ∃ c, s.rebuildCause b = s.joinRelease b c := by
  unfold State.rebuildCause
  unfold Bay.showsRelease at shows
  cases reply : (s.bay b).reconReply with
  | none =>
    rw [reply] at shows
    cases shows
  | some r =>
    rw [reply] at shows
    exact ⟨r.contact, if_pos shows⟩

/-- What a release at the load leaves: other bays, the number of records, and the rest of the cause set. -/
theorem State.rebuildCause_keeps (s : State) (b : Nat) : (∀ c, c ≠ b → (s.rebuildCause b).bay c = s.bay c) ∧
    (s.rebuildCause b).bays.length = s.bays.length ∧
    (s.rebuildCause b).emer.evacuation = s.emer.evacuation ∧
    (s.emer.released ≠ [] → (s.rebuildCause b).emer.released ≠ []) := by
  cases shows : (s.bay b).showsRelease with
  | false =>
    rw [State.rebuildCause_stands shows]
    exact ⟨fun _ _ => rfl, rfl, rfl, id⟩
  | true =>
    obtain ⟨c, e⟩ := State.rebuildCause_joins shows
    rw [e]
    refine ⟨((Stable.bayAndBus b s.bus s).joinRelease c rfl trivial ⟨rfl, fun _ _ => rfl⟩).2,
      (Stable.length { bay := fun _ => True, emer := True } s.bays.length id).joinRelease c trivial
        trivial rfl, ?_, ?_⟩
    · rw [(s.joinRelease_emer b c).1]
    · rw [(s.joinRelease_emer b c).1]
      exact fun _ empty => List.ne_nil_of_mem (insertRelease_mem b c s.emer.released)
        (congrArg (List.map (·.1)) empty)

/-- A release at the load is in the cause set. -/
theorem State.rebuildCause_released (shows : (s.bay b).showsRelease = true) :
    (s.rebuildCause b).emer.released ≠ [] := by
  obtain ⟨c, e⟩ := State.rebuildCause_joins shows
  rw [e, (s.joinRelease_emer b c).1]
  exact fun empty => List.ne_nil_of_mem (insertRelease_mem b c s.emer.released)
    (congrArg (List.map (·.1)) empty)

end

/-- What the step of a bay of the list brings, and no other step loses, stands after the whole list. -/
theorem State.forBays_reaches {P : State → Prop} {f : Nat → State → State} {bs : List Nat} {s : State} {b : Nat}
    (hb : b ∈ bs) (nodup : bs.Nodup) (other : ∀ x t c, c ≠ x → (f x t).bay c = t.bay c)
    (reach : ∀ t : State, t.bay b = s.bay b → P (f b t)) (stays : ∀ x t, P t → P (f x t)) :
    P (s.forBays bs f) := by
  induction bs generalizing s with
  | nil => cases hb
  | cons x xs ih =>
    obtain ⟨fresh, nodup⟩ := List.nodup_cons.1 nodup
    by_cases same : b = x
    · subst same
      exact State.forBays_keeps (s := f b s) (fun c _ t ht => stays c t ht) (reach s rfl)
    · exact ih (s := f x s) ((List.mem_cons.1 hb).resolve_left same) nodup
        fun t record => reach t (record.trans (other x s b same))

/-- The evacuation line at a load touches the cause set, the alarms and what is sent. -/
theorem State.rebuildEvacuation_parts (s : State) : ∃ al d, s.rebuildEvacuation = { s with
    emer := { s.emer with evacuation := s.lines.evac || s.emer.evacuation }, alarms := al, send := d } := by
  unfold State.rebuildEvacuation
  cases s.lines.evac with
  | false => exact ⟨s.alarms, s.send, rfl⟩
  | true =>
    unfold State.joinEvacuation
    obtain ⟨d, e⟩ := State.flagStatus_send (State.raise .evacuation none none
      { s with emer := { s.emer with evacuation := true } }) s.noCause
    rw [if_pos rfl, e]
    exact ⟨_, _, rfl⟩

section
variable {s : State} {b : Nat}

theorem State.rebuildCauses_each (among : b ∈ s.tableBays) : ∃ t : State, t.bays.length = s.bays.length ∧
    t.bay b = s.bay b ∧ s.rebuildCauses.bay b = (t.rebuildCause b).bay b := by
  obtain ⟨al, d, e⟩ := s.rebuildEvacuation_parts
  have bays : s.rebuildEvacuation.bays = s.bays := by rw [e]
  have table : s.rebuildEvacuation.tableBays = s.tableBays := by rw [e]; rfl
  rw [State.rebuildCauses_eq, table]
  obtain ⟨t, length, record, each⟩ := State.forBays_each (f := State.rebuildCause) (s := s.rebuildEvacuation)
    (P := fun t => t.bays.length = s.bays.length) among s.tableBays_nodup
    (fun x _ t h => (t.rebuildCause_keeps x).2.1.trans h) (fun x _ t => (t.rebuildCause_keeps x).1)
    (by rw [bays])
  exact ⟨t, length, record.trans (State.bay_congr bays b), each⟩

/-- A bay without a release contact stands. -/
theorem State.rebuildCauses_stands (among : b ∈ s.tableBays) (quiet : (s.bay b).showsRelease = false) :
    s.rebuildCauses.bay b = s.bay b := by
  obtain ⟨t, -, record, each⟩ := State.rebuildCauses_each among
  rw [each, State.rebuildCause_stands (by rw [record]; exact quiet), record]

/-- A bay with one is RELEASED, and the cause set is not empty. -/
theorem State.rebuildCauses_released (among : b ∈ s.tableBays) (h1 : 1 ≤ b) (h2 : b ≤ s.bays.length)
    (shows : (s.bay b).showsRelease = true) :
    (s.rebuildCauses.bay b).state = some .released ∧ s.rebuildCauses.noCause = false := by
  constructor
  · obtain ⟨t, length, record, each⟩ := State.rebuildCauses_each among
    obtain ⟨c, e⟩ := State.rebuildCause_joins (s := t) (b := b) (by rw [record]; exact shows)
    rw [each, e]
    exact State.joinRelease_state h1 (by rw [length]; exact h2) c
  · obtain ⟨al, d, e⟩ := s.rebuildEvacuation_parts
    have table : s.rebuildEvacuation.tableBays = s.tableBays := by rw [e]; rfl
    have record : s.rebuildEvacuation.bay b = s.bay b := State.bay_congr (by rw [e]) b
    have released : s.rebuildCauses.emer.released ≠ [] := by
      rw [State.rebuildCauses_eq, table]
      exact State.forBays_reaches among s.tableBays_nodup (fun x t => (t.rebuildCause_keeps x).1)
        (fun t same => State.rebuildCause_released (by rw [same, record]; exact shows))
        fun x t => (t.rebuildCause_keeps x).2.2.2
    unfold State.noCause
    rw [List.isEmpty_eq_false_iff.2 released, Bool.and_false]

/-- The asserted line is in the cause set. -/
theorem State.rebuildCauses_evacuation (line : s.lines.evac = true) : s.rebuildCauses.noCause = false := by
  obtain ⟨al, d, e⟩ := s.rebuildEvacuation_parts
  have joined : s.rebuildCauses.emer.evacuation = true :=
    State.forBays_keeps (P := fun t => t.emer.evacuation = true) (s := s.rebuildEvacuation)
      (fun x _ t h => (t.rebuildCause_keeps x).2.2.1.trans h) (by rw [e, line]; rfl)
  unfold State.noCause
  rw [joined]
  rfl

/-- With the line released and no release contact the cause set stands. -/
theorem State.rebuildCauses_none (line : s.lines.evac = false)
    (quiet : ∀ b ∈ s.tableBays, (s.bay b).showsRelease = false) : s.rebuildCauses = s := by
  have still : s.rebuildEvacuation = s := if_neg (by rw [line]; nofun)
  rw [State.rebuildCauses_eq, still]
  exact State.forBays_keeps (P := fun t => t = s)
    (fun b among t same => by subst same; exact State.rebuildCause_stands (quiet b among)) rfl

end

end Sys2Proof.Machine
end

section
/-!
PROOFS. The two loads (R170, R171): the steps between the content and the end put together.
-/
namespace Sys2Proof.Machine
open Sys2Proof

/-! ### What stands from the content to the end of a load -/

/-- The lines, the store, the bay count, an empty queue and no berth record: what a load has set when the bays
are reconciled. -/
structure State.Laid (x : Lines) (y : StoreState) (n : Nat) (s : State) : Prop where
  lines : s.lines = x
  store : s.store = y
  count : s.doors.count = n
  queue : s.berth.queue = []
  record : s.berth.record = none

theorem State.Laid.table {x : Lines} {y : StoreState} {n : Nat} {s : State} (h : s.Laid x y n) {b : Nat} :
    b ∈ s.tableBays ↔ 1 ≤ b ∧ b ≤ n := by
  rw [State.mem_tableBays, State.inTable, h.count, decide_eq_true_iff]

/-- No operation on bays, causes and alarms touches them. -/
theorem Stable.laid (x : Lines) (y : StoreState) (n : Nat) :
    Stable { bay := fun _ => True, emer := True } (State.Laid x y n) where
  send _ _ h := ⟨h.1, h.2, h.3, h.4, h.5⟩
  bay _ _ _ h := ⟨h.1, h.2, h.3, h.4, h.5⟩
  bays _ _ _ h := ⟨h.1, h.2, h.3, h.4, h.5⟩
  record f _ h := ⟨h.1, h.2, h.3, h.4, congrArg (Option.map f) h.5⟩
  phase _ _ h := ⟨h.1, h.2, h.3, h.4, h.5⟩
  berth _ h := h.elim
  queue _ h := h.elim
  operation _ h := ⟨h.1, h.2, h.3, h.4, h.5⟩
  removal _ h := ⟨h.1, h.2, h.3, h.4, h.5⟩
  doors _ h := h.elim
  alarm _ _ _ h := ⟨h.1, h.2, h.3, h.4, h.5⟩
  cleared _ h := ⟨h.1, h.2, h.3, h.4, h.5⟩
  sense _ h := h.elim
  emer _ _ h := ⟨h.1, h.2, h.3, h.4, h.5⟩
  mode _ h := h.elim
  link _ h := h.elim
  bus _ h := h.elim
  secure _ h := h.elim
  store _ h := h.elim
  startup _ h := h.elim

theorem State.Laid.only {x : Lines} {y : StoreState} {n : Nat} {B : Nat → Prop} {s t : State}
    (h : s.Laid x y n) (only : State.OnlyBays B s t) : t.Laid x y n where
  lines := (congrArg Setting.lines only.setting).trans h.lines
  store := (congrArg Setting.store only.setting).trans h.store
  count := only.count.trans h.count
  queue := (congrArg BerthRest.queue only.berth).trans h.queue
  record := by
    have same : t.berth.record.map Berth.identity = s.berth.record.map Berth.identity :=
      congrArg BerthRest.identity only.berth
    rw [h.record] at same
    exact Option.map_eq_none_iff.1 same

/-- From `s` a load with the content `c` over `n` bays has reached `u`, with the bays yet to reconcile. -/
structure State.LoadBegun (s u : State) (c : Option Content) (n : Nat) : Prop where
  laid : u.Laid s.lines { s.store with inForce := c } n
  emer : u.emer = s.emer
  length : u.bays.length = s.bays.length
  marks : ∀ b, 1 ≤ b → b ≤ n → (u.bay b).recon = (s.bay b).recon ∧ (u.bay b).isolation = (s.bay b).isolation

theorem State.LoadBegun.takeContent (s : State) (c : Option Content) {n : Nat} (high : n ≤ s.bays.length) :
    s.LoadBegun (State.takeContent c n { s with berth := .initial }) c n := by
  have marks := fun b h1 hn =>
    State.takeContent_bay (s := { s with berth := .initial }) (c := c) (n := n) (b := b) h1 hn high
  obtain ⟨bays, e, length⟩ := State.takeContent_parts (s := { s with berth := .initial }) (c := c) (n := n)
  refine ⟨?_, ?_, ?_, marks⟩
  · rw [e]
    exact ⟨rfl, rfl, rfl, rfl, rfl⟩
  · rw [e]
  · rw [e]
    exact length

theorem State.LoadBegun.clear {s u : State} {c : Option Content} {n : Nat} (h : s.LoadBegun u c n) (k : AlarmKind)
    (b : Option Nat) : s.LoadBegun (u.clear k b) c n :=
  ⟨⟨h.laid.1, h.laid.2, h.laid.3, h.laid.4, h.laid.5⟩, h.emer, h.length, h.marks⟩

/-! ### Bays and causes -/

/-- The bays reconciled by `f`, the isolations and the causes set. -/
def State.loaded (contacts : Bool) (f : Nat → State → State) (s : State) : State :=
  ((s.forBays s.tableBays f).loadIsolations contacts).rebuildCauses

section
variable {f : Nat → State → State} {v : Recon} {st : BayState} (rec : Reconciles f v st) {s u : State}
  {c : Option Content} {n : Nat} (begun : s.LoadBegun u c n) (contacts : Bool) (high : n ≤ s.bays.length)

include rec in
theorem Reconciles.forBays (u : State) : State.OnlyBays (fun _ => True) u (u.forBays u.tableBays f) ∧
    (u.forBays u.tableBays f).bays.length = u.bays.length :=
  State.forBays_keeps (P := fun t => State.OnlyBays (fun _ => True) u t ∧ t.bays.length = u.bays.length)
    (fun b _ t h => ⟨h.1.trans ((rec.only b t).mono fun _ _ => trivial), (rec.length b t).trans h.2⟩)
    ⟨.refl _ u, rfl⟩

include rec in
/-- The isolations set, only bays have changed. -/
theorem Reconciles.isolations (u : State) :
    State.OnlyBays (fun _ => True) u ((u.forBays u.tableBays f).loadIsolations contacts) ∧
      ((u.forBays u.tableBays f).loadIsolations contacts).bays.length = u.bays.length := by
  obtain ⟨only, length⟩ := rec.forBays u
  exact ⟨only.trans ((Stable.onlyBays (fun _ => True) _).loadIsolations contacts (fun _ => trivial) (.refl _ _)),
    (Stable.length { bay := fun _ => True } u.bays.length id).loadIsolations contacts (fun _ => trivial) length⟩

section
variable {b : Nat} (h1 : 1 ≤ b) (hn : b ≤ n)
include rec begun high h1 hn

/-- A bay keeps its reconciliation result till the causes are set. -/
theorem Reconciles.isolations_recon :
    (((u.forBays u.tableBays f).loadIsolations contacts).bay b).recon = (s.bay b).recon := by
  have within : b ≤ u.bays.length := begun.length ▸ Nat.le_trans hn high
  have among : b ∈ u.tableBays := begun.laid.table.2 ⟨h1, hn⟩
  obtain ⟨t, length, record, each⟩ := State.forBays_each (f := f) (P := fun t => t.bays.length = u.bays.length)
    among u.tableBays_nodup (fun x _ t h => (rec.length x t).trans h) (fun x _ t => (rec.only x t).bays) rfl
  have high' : b ≤ t.bays.length := length.symm ▸ within
  have kept : ((f b t).bay b).recon = (t.bay b).recon := by
    obtain e | ⟨x, e⟩ := rec.record b t
    · rw [e]
    · rw [e]
      exact State.enterState_recon h1 high' x
  calc _ = ((u.forBays u.tableBays f).bay b).recon :=
        setIsolations_recon h1 (by rw [(rec.forBays u).2]; exact within)
    _ = (t.bay b).recon := by rw [each, kept]
    _ = (s.bay b).recon := by rw [record, (begun.marks b h1 hn).1]

/-- A bay without an isolation enters the state of its result, and no contact isolates it. -/
theorem Reconciles.isolations_state (notOpen : st ≠ .opened) (free : (s.bay b).isolation = .notIsolated)
    (result : (s.bay b).recon = some v)
    (unasked : ∀ y : Bay, y.isolation = .notIsolated → y.recon = some v → y.toIsolate contacts = false) :
    (((u.forBays u.tableBays f).loadIsolations contacts).bay b).state = some st := by
  have within : b ≤ u.bays.length := begun.length ▸ Nat.le_trans hn high
  have among : b ∈ u.tableBays := begun.laid.table.2 ⟨h1, hn⟩
  obtain ⟨recon, isolation⟩ := begun.marks b h1 hn
  obtain ⟨t, length, record, each⟩ := State.forBays_each (f := f) (P := fun t => t.bays.length = u.bays.length)
    among u.tableBays_nodup (fun x _ t h => (rec.length x t).trans h) (fun x _ t => (rec.only x t).bays) rfl
  have high' : b ≤ t.bays.length := length.symm ▸ within
  have free' : (t.bay b).isolation = .notIsolated := by rw [record, isolation, free]
  have result' : (t.bay b).recon = some v := by rw [record, recon, result]
  have entered := each.trans (rec.settles b t free' result')
  have unasked' : (((u.forBays u.tableBays f).bay b)).toIsolate contacts = false := by
    rw [entered]
    exact unasked _ (State.enterState_notIsolated h1 high' notOpen free')
      ((State.enterState_recon h1 high' st).trans result')
  have stands : ((u.forBays u.tableBays f).loadIsolations contacts).bay b = (u.forBays u.tableBays f).bay b :=
    setIsolations_other unasked'
  rw [stands, entered]
  exact State.enterState_state h1 high' st

end

include rec begun

theorem Reconciles.loaded_laid : (u.loaded contacts f).Laid s.lines { s.store with inForce := c } n :=
  (Stable.laid _ _ _).rebuildCauses (fun _ => trivial) trivial (begun.laid.only (rec.isolations contacts u).1)

theorem Reconciles.loaded_evacuation (line : s.lines.evac = true) : (u.loaded contacts f).noCause = false :=
  State.rebuildCauses_evacuation (by rw [(begun.laid.only (rec.isolations contacts u).1).lines]; exact line)

variable {b : Nat}
include high

theorem Reconciles.loaded_released (h1 : 1 ≤ b) (hn : b ≤ n) (shows : (s.bay b).showsRelease = true) :
    ((u.loaded contacts f).bay b).state = some .released ∧ (u.loaded contacts f).noCause = false :=
  State.rebuildCauses_released ((begun.laid.only (rec.isolations contacts u).1).table.2 ⟨h1, hn⟩) h1
    (by rw [(rec.isolations contacts u).2, begun.length]; exact Nat.le_trans hn high)
    (by unfold Bay.showsRelease Bay.reconReply; rw [rec.isolations_recon begun contacts high h1 hn]; exact shows)

theorem Reconciles.loaded_none (line : s.lines.evac = false)
    (quiet : ∀ b, 1 ≤ b → b ≤ n → (s.bay b).showsRelease = false) :
    (u.loaded contacts f).noCause = s.noCause := by
  have only := (rec.isolations contacts u).1
  have stands : u.loaded contacts f = (u.forBays u.tableBays f).loadIsolations contacts := by
    refine State.rebuildCauses_none (by rw [(begun.laid.only only).lines]; exact line) fun b among => ?_
    obtain ⟨h1, hn⟩ := (begun.laid.only (rec.isolations contacts u).1).table.1 among
    unfold Bay.showsRelease Bay.reconReply
    rw [rec.isolations_recon begun contacts high h1 hn]
    exact quiet b h1 hn
  have emer := (congrArg Setting.emer only.setting).trans begun.emer
  rw [stands]
  unfold State.noCause
  rw [show ((u.forBays u.tableBays f).loadIsolations contacts).emer = s.emer from emer]

theorem Reconciles.loaded_state (h1 : 1 ≤ b) (hn : b ≤ n) (notOpen : st ≠ .opened)
    (free : (s.bay b).isolation = .notIsolated) (result : (s.bay b).recon = some v)
    (unasked : ∀ y : Bay, y.isolation = .notIsolated → y.recon = some v → y.toIsolate contacts = false)
    (quiet : (s.bay b).showsRelease = false) : ((u.loaded contacts f).bay b).state = some st := by
  have stands : (u.loaded contacts f).bay b = ((u.forBays u.tableBays f).loadIsolations contacts).bay b := by
    refine State.rebuildCauses_stands ((begun.laid.only (rec.isolations contacts u).1).table.2 ⟨h1, hn⟩) ?_
    unfold Bay.showsRelease Bay.reconReply
    rw [rec.isolations_recon begun contacts high h1 hn]
    exact quiet
  rw [stands]
  exact rec.isolations_state begun contacts high h1 hn notOpen free result unasked

end

/-! ### The phase and the mode (R27, R134) -/

/-- The phase a load finds by the beams. -/
def Lines.loadPhase (x : Lines) : Phase := if x.beams = 0#16 then .vacant else .occupiedUnknown

theorem Lines.loadPhase_waits (x : Lines) : x.loadPhase.waits = false := by
  unfold Lines.loadPhase
  split <;> rfl

/-- The phase is set, and no bay state, cause, line or setting of the load changes. -/
theorem State.phaseAtLoad_parts (s : State) : ∃ x bays y d, s.phaseAtLoad = { s with
      berth := x, bays := bays, sense := y, send := d } ∧ x.phase = s.lines.loadPhase ∧
    x.queue = s.berth.queue ∧ x.record = s.berth.record ∧
    ∀ b, (s.phaseAtLoad.bay b).state = (s.bay b).state := by
  unfold State.phaseAtLoad Lines.loadPhase State.enterVacant State.beamsClear
  dsimp only
  by_cases clear : s.lines.beams = 0#16
  · rw [clear, beq_self_eq_true, if_pos rfl, if_pos rfl, if_pos rfl]
    obtain ⟨c, d, moved⟩ := State.setPhase_parts { s with
      berth := { s.berth with stableFrom := none, stopTaken := false } } .vacant
    rw [moved]
    split
    · exact ⟨_, s.bays, s.sense, d, rfl, rfl, rfl, rfl, fun _ => rfl⟩
    · exact ⟨_, _, _, d, rfl, rfl, rfl, rfl, fun b => by
      rw [State.startWatch_bay]
      rfl⟩
  · rw [beq_false_of_ne clear, if_neg Bool.false_ne_true, if_neg Bool.false_ne_true, if_neg clear]
    obtain ⟨c, d, moved⟩ := State.setPhase_parts { s with
      berth := { s.berth with stableFrom := some s.now, stopTaken := false } } .occupiedUnknown
    rw [moved]
    exact ⟨_, s.bays, s.sense, d, rfl, rfl, rfl, rfl, fun _ => rfl⟩

theorem State.modeAtLoad_parts (s : State) : ∃ d, s.modeAtLoad = { s with
    mode := if s.noCause then .localMode else .emergency, send := d } := by
  unfold State.modeAtLoad
  split
  · exact s.setMode_parts .localMode
  · obtain ⟨d, moved⟩ := s.setMode_parts .emergency
    unfold State.evacuationAtLoad
    dsimp only
    rw [moved]
    split <;> exact ⟨_, rfl⟩

theorem State.startClose_phase (s : State) (k : OpKind) (og : Origin) (bs : List Nat) :
    (s.startClose k og bs).berth.phase = s.berth.phase := by
  cases bs with
  | nil => rfl
  | cons b bs => exact (s.startClose_parts k og (List.cons_ne_nil b bs)).2.1

/-- Where a load passed, the phase, the mode and the recovery close leave what the load has set. -/
theorem State.loadPassed_parts {u : State} {x : Lines} {y : StoreState} {n : Nat} (laid : u.Laid x y n) :
    ∃ w : State, w = (u.phaseAtLoad.modeAtLoad.startClose .recoverClose .part
        u.phaseAtLoad.modeAtLoad.markedBays).finish ∧ w.Laid x y n ∧
      w.berth.phase = x.loadPhase ∧ w.mode = (if u.noCause then .localMode else .emergency) ∧
      ∀ b st, (u.bay b).state = some st → (w.bay b).state = some st := by
  obtain ⟨z, bays, sense, d, phased, phase, queue, record, states⟩ := u.phaseAtLoad_parts
  obtain ⟨d', moded⟩ := u.phaseAtLoad.modeAtLoad_parts
  have started := u.phaseAtLoad.modeAtLoad.startClose_phase .recoverClose .part
    u.phaseAtLoad.modeAtLoad.markedBays
  have only := (Stable.onlyBays (· ∈ u.phaseAtLoad.modeAtLoad.markedBays) u.phaseAtLoad.modeAtLoad).startClose
    .recoverClose .part (fun _ h => h) (.refl _ _)
  have same : ∀ b, (u.phaseAtLoad.modeAtLoad.bay b).state = (u.bay b).state := fun b => by
    rw [State.bay_congr (congrArg State.bays moded)]
    exact states b
  have laid' : u.phaseAtLoad.modeAtLoad.Laid x y n := by
    rw [moded, phased]
    exact ⟨laid.lines, laid.store, laid.count, queue.trans laid.queue, record.trans laid.record⟩
  have phase' : u.phaseAtLoad.modeAtLoad.berth.phase = x.loadPhase := by
    rw [moded, phased, ← laid.lines]
    exact phase
  have mode : u.phaseAtLoad.modeAtLoad.mode = if u.noCause then .localMode else .emergency := by
    rw [moded, phased]
    rfl
  generalize u.phaseAtLoad.modeAtLoad = m at started only same laid' phase' mode
  generalize State.startClose .recoverClose .part m.markedBays m = w at started only
  refine ⟨_, rfl, laid'.only only.finish, ?_, (congrArg Setting.mode only.finish.setting).trans mode,
    fun b st is => ?_⟩
  · rw [State.finish_phase, State.settledPhase_stands (by rw [started, phase']; exact x.loadPhase_waits), started,
      phase']
  · have unmarked : b ∉ m.markedBays := fun among => by
      have isNone := (List.mem_filter.1 among).2
      rw [same, is] at isNone
      cases isNone
    rw [only.finish.bays b unmarked, same, is]

/-- Where it failed, CONFIG_FAULT and STORE_FAULT leave it. -/
theorem State.loadRefused_parts {u : State} {x : Lines} {y : StoreState} {n : Nat} (laid : u.Laid x y n)
    (d : StoreDetail) :
    ∃ w : State, w = ((u.phaseAtLoad.setMode .configFault).evacuationAtLoad.raise .storeFault none
        (some (.store d))).finish ∧ w.Laid x y n ∧
      w.berth.phase = x.loadPhase ∧ w.mode = .configFault ∧
      (∀ b, (w.bay b).state = (u.bay b).state) ∧
      ((∃ e ∈ w.alarms.entries, e.kind = .storeFault ∧ e.active = true ∧ e.detail = some (.store d)) ∨
        w.alarms.overflow = true) := by
  obtain ⟨z, bays, sense, d', phased, phase, queue, record, states⟩ := u.phaseAtLoad_parts
  have moded : ∃ y, (u.phaseAtLoad.setMode .configFault).evacuationAtLoad = { u.phaseAtLoad with
      mode := .configFault, send := y } := by
    obtain ⟨y, moved⟩ := u.phaseAtLoad.setMode_parts .configFault
    unfold State.evacuationAtLoad
    rw [moved]
    split <;> exact ⟨_, rfl⟩
  obtain ⟨y', moded⟩ := moded
  rw [moded]
  have laid' : u.phaseAtLoad.Laid x y n := by
    rw [phased]
    exact ⟨laid.lines, laid.store, laid.count, queue.trans laid.queue, record.trans laid.record⟩
  have phase' : u.phaseAtLoad.berth.phase = x.loadPhase := by
    rw [phased, ← laid.lines]
    exact phase
  generalize u.phaseAtLoad = m at states laid' phase'
  have raised := m.alarms.raise_leaves .storeFault none (some (.store d)) m.seconds
  generalize made : State.raise .storeFault none (some (.store d)) { m with mode := .configFault, send := y' } = w
  have alarms : w.alarms = (m.alarms.raise .storeFault none (some (.store d)) m.seconds).1 := by
    rw [← made]
    rfl
  have parts : w.Laid x y n ∧ w.berth.phase = x.loadPhase ∧ w.mode = .configFault ∧ w.bays = m.bays := by
    rw [← made]
    exact ⟨⟨laid'.lines, laid'.store, laid'.count, laid'.queue, laid'.record⟩, phase', rfl, rfl⟩
  obtain ⟨laid'', phase'', mode, bays'⟩ := parts
  rw [← alarms] at raised
  refine ⟨_, rfl, laid''.only w.finish_onlyBays, ?_, (State.finish_mode w).trans mode, fun b => ?_, ?_⟩
  · rw [State.finish_phase, State.settledPhase_stands (by rw [phase'']; exact x.loadPhase_waits), phase'']
  · rw [State.finish_bay, State.bay_congr bays', states]
  · obtain ⟨e, among, kind, -, -, active, detail⟩ | ⟨-, full⟩ := raised
    · exact .inl ⟨e, State.finish_entry _ among (by rw [kind]; nofun), kind, active, detail⟩
    · exact .inr ((State.finish_overflow w).trans full)

/-! ### The loads -/

theorem Bay.showsRelease_reply {y : Bay} {r : NodeReply} {c : ProvingClass} (h : y.recon = some (.reply r c)) :
    y.showsRelease = r.releases := by
  unfold Bay.showsRelease Bay.reconReply
  rw [h]
  rfl

theorem Bay.showsRelease_lost {y : Bay} (h : y.recon = some .lost) : y.showsRelease = false := by
  unfold Bay.showsRelease Bay.reconReply
  rw [h]
  rfl

/-- A bay shows a release contact only in its reconciliation reply. -/
theorem Bay.showsRelease_none {y : Bay} (h : ∀ r c, y.recon = some (.reply r c) → r.releases = false) :
    y.showsRelease = false := by
  unfold Bay.showsRelease Bay.reconReply
  split
  · exact h _ _ ‹_›
  · rfl

/-- The state of a load that passed, its bays reconciled and its causes set. -/
def State.loadPassed (s : State) : State :=
  ((State.takeContent (some s.store.image) s.store.image.count { s with berth := .initial }).clear .storeFault
    none).loaded true State.reconcile

theorem State.endLoad_eq (s : State) : s.endLoad = s.loadPassed.phaseAtLoad.modeAtLoad.startClose .recoverClose
    .part s.loadPassed.phaseAtLoad.modeAtLoad.markedBays := rfl

/-- The state of a load that failed, its bays reconciled and its causes set. -/
def State.loadRefused (s : State) : State :=
  (State.takeContent none s.bus.pollCount { s with berth := .initial }).loaded false State.reconcileFailed

theorem State.endFailedLoad_eq (s : State) (d : StoreDetail) : s.endFailedLoad d =
    (s.loadRefused.phaseAtLoad.setMode .configFault).evacuationAtLoad.raise .storeFault none (some (.store d)) := rfl

theorem State.exec_loadSucceeded {s : State} (powered : s.powered = true) (ends : s.loadEnds = true)
    (passed : s.store.loadDetail = none) : exec .loadSucceeded s = .next s.begin_.endLoad.finish := by
  have effect : s.begin_.loadSucceeded = s.begin_.endLoad := if_pos (by
    rw [show s.begin_.store.loadDetail = none from passed, show s.begin_.loadEnds = true from ends]
    rfl)
  exact (exec_event _ powered).trans (by rw [effect])

theorem State.exec_loadFailed {s : State} (powered : s.powered = true) (ends : s.loadEnds = true) {d : StoreDetail}
    (failed : s.store.loadDetail = some d) : exec .loadFailed s = .next (s.begin_.endFailedLoad d).finish := by
  have effect : s.begin_.loadFailed = s.begin_.endFailedLoad d := by
    unfold State.loadFailed
    rw [show s.begin_.store.loadDetail = some d from failed]
    exact if_pos ends
  exact (exec_event _ powered).trans (by rw [effect])

/-- Settles O59: a load is its content taken, its bays reconciled with isolations and causes, and the phase and
the mode that follow. -/
theorem loadsEnd : Obligations.LoadsEnd := by
  unfold Obligations.LoadsEnd
  intro s _ shaped powered noCause ends
  have records : s.bays.length = 24 := shaped
  refine ⟨fun passed count => ?_, fun d failed count => ?_⟩
  · have high : s.store.image.count ≤ s.begin_.bays.length := by rw [State.begin_bays, records]; exact count
    have begun := (State.LoadBegun.takeContent s.begin_ (some s.store.image) high).clear .storeFault none
    have lost := Reconciles.reconcile (.inl ⟨rfl, rfl⟩)
    obtain ⟨w, made, laid, phase, mode, states⟩ := State.loadPassed_parts (lost.loaded_laid begun true)
    have done : exec .loadSucceeded s = .next w := by
      rw [State.exec_loadSucceeded powered ends passed, State.endLoad_eq, made]
      rfl
    have emergency : s.begin_.loadPassed.noCause = false → w.mode = .emergency := fun caused =>
      mode.trans (if_neg (Bool.eq_false_iff.1 caused))
    refine ⟨w, done, congrArg StoreState.inForce laid.store, laid.count,
      fun line => emergency (lost.loaded_evacuation begun true line), fun b r c h1 hn recon releases => ?_,
      fun line quiet => ?_, phase, laid.record, laid.queue, fun b h1 hn free => ⟨fun r recon quiet iso => ?_,
        fun recon => ?_⟩⟩
    · obtain ⟨state, caused⟩ := lost.loaded_released begun true high h1 hn
        ((Bay.showsRelease_reply recon).trans releases)
      exact ⟨emergency caused, states b _ state⟩
    · have still := lost.loaded_none begun true high line fun b h1 hn =>
        Bay.showsRelease_none fun r c => quiet b r c h1 hn
      exact mode.trans (if_pos (still.trans noCause))
    · refine states b _ ((Reconciles.reconcile (.inr ⟨r, rfl, rfl⟩)).loaded_state begun true high h1 hn nofun
        free recon (fun y free recon => ?_) ((Bay.showsRelease_reply recon).trans quiet))
      unfold Bay.toIsolate
      rw [free, recon]
      dsimp only
      rw [iso]
      rfl
    · refine states b _ (lost.loaded_state begun true high h1 hn nofun free recon (fun y free recon => ?_)
        (Bay.showsRelease_lost recon))
      unfold Bay.toIsolate
      rw [free, recon]
      rfl
  · have high : s.bus.pollCount ≤ s.begin_.bays.length := by rw [State.begin_bays, records]; exact count
    have begun := State.LoadBegun.takeContent s.begin_ none high
    obtain ⟨w, made, laid, phase, mode, states, raised⟩ := State.loadRefused_parts
      ((Reconciles.reconcileFailed (.inl ⟨rfl, rfl⟩)).loaded_laid begun false) d
    have done : exec .loadFailed s = .next w := by
      rw [State.exec_loadFailed powered ends failed, State.endFailedLoad_eq, made]
      rfl
    refine ⟨w, done, congrArg StoreState.inForce laid.store, mode, laid.count, phase,
      fun b r c h1 hn free recon quiet => ?_, raised⟩
    rw [states b]
    refine (Reconciles.reconcileFailed (.inr ⟨r, c, rfl, rfl⟩)).loaded_state begun false high h1 hn ?_
      free recon (fun y free _ => ?_) ((Bay.showsRelease_reply recon).trans quiet)
    · unfold ProvingClass.loadState
      split <;> nofun
    · unfold Bay.toIsolate
      rw [free]
      rfl

end Sys2Proof.Machine
end
